-- ==== Sys2Proof/Word.lean ====
section
/-! DEFINITION. The words of the KN-260: link bytes, belt positions, and the bounded numbers that name pockets, classes,
denominations and decimal digits. -/

namespace Sys2Proof

/-- One byte of the line link (Table 9-2, Table 12-1). -/
abbrev Byte := BitVec 8

/-- A position on the belt: 0 to 65535, counted modulo 65536 (R1). -/
abbrev Position := BitVec 16

/-- A pocket. Pocket number k of the manual (1 to 16) is the element k - 1: pocket 1 is `0`, pocket 2 is `1`. -/
abbrev PocketNo := Fin 16

/-- A class number, 0 to 23 (Table 7-1). -/
abbrev ClassNo := Fin 24

/-- A denomination index, 0 to 15 (Table 7-1). -/
abbrev DenomNo := Fin 16

/-- A decimal quantity digit by digit, the LEAST significant digit first (R116 works from that end). The counted and
declared values of a deposit have 14 of them (Table 6-1, Table 6-3). -/
abbrev Digits := List (Fin 10)

end Sys2Proof
end

