-- ==== Sys2Proof/Config.lean ====
section
/-! DEFINITION. The values the manual leaves open. Each is an uninterpreted constant: no body, so no proof can lean on a
particular value. Every one of them shapes only bytes the part emits; none steers the line. -/

namespace Sys2Proof.Config

/-- FREE VALUE (log entry 10): the byte a Count8 field shows for a count outside 0 to 255. -/
opaque beyondCount8 : Nat → BitVec 8

/-- FREE VALUE (log entry 10): the two bytes a Number16 field shows for a count above 65535, a figure outside the range
the owning chapter gives the count. -/
opaque beyondNumber16 : Nat → BitVec 16

/-- FREE VALUE (log entry 10): the four bytes a Number32 field shows for a count above 4,294,967,295. -/
opaque beyondNumber32 : Nat → BitVec 32

/-- FREE VALUE (log entry 11): what a Number16 field that is absent carries where Table 12-1 names no absent value for
it (a leading position while the eye is not BLOCKED, an unresolved entry's generation, the distances of an undefined
pocket, G, A and H of pocket 1). The argument tells the fields apart. -/
opaque absentNumber16 : Nat → BitVec 16

end Sys2Proof.Config
end

