-- ==== Sys2Proof/Syntax.lean ====
section
/-! DEFINITION. The commands of the block: one constructor for each row of spec/opcode_table.json, in the table's order.
A row is one whole, indivisible step of the part (95_what_each_step_holds.md). The rows of a management command carry no
operand: such a step takes the command at the HEAD of the command queue, where its frame's payload stands (R172). -/

namespace Sys2Proof

/-- The steps of the KN-260. -/
inductive Instr where
  /-- RESET (R18): power-on or the reset input, with the station straps STN5..STN0 and the levels of EYE_ENTRY, RUNNING
  and of the 48 pocket eyes (bit k - 1 for pocket k) as the reset ends. -/
  | reset (straps : BitVec 6) (entryEye running : Bool) (arrivalEyes emptyEyes stackEyes : BitVec 16)
  /-- ENCODER_PULSE (R1). -/
  | encoderPulse
  /-- ENTRY_EYE_BLOCKING_EDGE (R4). -/
  | entryEyeBlockingEdge
  /-- ENTRY_EYE_CLEARING_EDGE (R6). -/
  | entryEyeClearingEdge
  /-- JAM_MARK_EXPIRY (R5). -/
  | jamMarkExpiry
  /-- DECISION_POINT_EXPIRY (R29) of the entry with this sequence. -/
  | decisionPointExpiry (seq : Nat)
  /-- GATE_ON_EXPIRY (R57) of the entry with this sequence. -/
  | gateOnExpiry (seq : Nat)
  /-- GATE_OFF_EXPIRY (R58) of the entry with this sequence. -/
  | gateOffExpiry (seq : Nat)
  /-- WINDOW_END_EXPIRY (R66) of the entry with this sequence. -/
  | windowEndExpiry (seq : Nat)
  /-- IDLE_MARK_REACHED (R158). -/
  | idleMarkReached
  /-- ARRIVAL (R61): a blocking edge of a pocket's arrival eye. -/
  | arrival (pocket : PocketNo)
  /-- ARRIVAL_EYE_CLEARING_EDGE (R61). -/
  | arrivalEyeClearingEdge (pocket : PocketNo)
  /-- EMPTY_EYE_EDGE (R87): the pocket's empty eye goes active or inactive. -/
  | emptyEyeEdge (pocket : PocketNo) (active : Bool)
  /-- STACK_EYE_EDGE (R72): the pocket's stack eye goes active or inactive. -/
  | stackEyeEdge (pocket : PocketNo) (active : Bool)
  /-- RUNNING_FALLING_EDGE (R147). -/
  | runningFallingEdge
  /-- RUNNING_RISING_EDGE (R147). -/
  | runningRisingEdge
  /-- STOP_EVENT (R151), as scheduled by R149. -/
  | stopEvent
  /-- LINK_FRAME_RECEIVED (R161): these bytes come in on the inbound link pair, one after another. -/
  | linkFrameReceived (bytes : List Byte)
  /-- INTAKE_TAKE (R23). -/
  | intakeTake
  /-- STRAP_TIMER_EXPIRY (R84) of this pocket's strap timer. -/
  | strapTimerExpiry (pocket : PocketNo)
  /-- TRANSMISSION_END (R168). -/
  | transmissionEnd
  /-- LOAD_TABLE (R127). -/
  | loadTable
  /-- COPY_ACTIVE_TO_SHADOW (R129). -/
  | copyActiveToShadow
  /-- COMMIT_TABLES (R130). -/
  | commitTables
  /-- CANCEL_COMMIT (R134). -/
  | cancelCommit
  /-- SET_LINE_PARAMETERS (R137). -/
  | setLineParameters
  /-- DECLARE (R103). -/
  | declare
  /-- WITHDRAW (R104). -/
  | withdraw
  /-- LINE_CONTROL_RUN (R144). -/
  | lineControlRun
  /-- LINE_CONTROL_STOP (R145). -/
  | lineControlStop
  /-- LINE_CONTROL_HALT (R150). -/
  | lineControlHalt
  /-- LINE_CONTROL_RESUME (R154). -/
  | lineControlResume
  /-- LINE_CONTROL_CLEAR (R155). -/
  | lineControlClear
  /-- UNKNOWN_KIND (R173). -/
  | unknownKind
  /-- FORCE_DEPOSIT_END (R109). -/
  | forceDepositEnd
  /-- POCKET_CONTROL_INHIBIT (R92). -/
  | pocketControlInhibit
  /-- POCKET_CONTROL_RELEASE (R92). -/
  | pocketControlRelease
  /-- POCKET_CONTROL_CLOSE_SHORT (R90). -/
  | pocketControlCloseShort
  /-- POCKET_CONTROL_CLEAR (R94). -/
  | pocketControlClear
  /-- FEED_HOLD_SET (R157). -/
  | feedHoldSet
  /-- FEED_HOLD_CLEAR (R157). -/
  | feedHoldClear
  /-- INTAKE_RESTART (R22). -/
  | intakeRestart
  /-- EVENT_ENABLE_SET (R176). -/
  | eventEnableSet
  /-- EVENT_ENABLE_CLEAR (R176). -/
  | eventEnableClear
  /-- EVENT_CLEAR (R176). -/
  | eventClear
  /-- COUNTERS_CLEAR (R176). -/
  | countersClear
  /-- STATUS_QUERY_LINE (R178). -/
  | statusQueryLine
  /-- STATUS_QUERY_POCKET (R179). -/
  | statusQueryPocket
  /-- STATUS_QUERY_DEPOSITS (R180). -/
  | statusQueryDeposits
  /-- STATUS_QUERY_TRANSIT (R181). -/
  | statusQueryTransit
  /-- STATUS_QUERY_COUNTERS (R182). -/
  | statusQueryCounters
  /-- STATUS_QUERY_WATCH (R182). -/
  | statusQueryWatch
  /-- PARAMETER_CODE_REFUSAL (R173). -/
  | parameterCodeRefusal
  deriving DecidableEq, Repr

end Sys2Proof
end

