-- ==== Sys2Proof/Decode.lean ====
section
/-! DEFINITION. The command a table word spells. No row of spec/opcode_table.json carries bits (every row's "fields" is
empty and none has "fixed"), so no word spells a command. The bytes of the line link are read in Machine/Operands.lean
and Machine/Link.lean. -/

namespace Sys2Proof

/-- The command that a word of the opcode table spells: none, for every word (log entry 2). -/
def decodeTableWord (_nbits _w : Nat) : Option Instr := none

end Sys2Proof
end

