-- ==== Sys2Proof/Machine/State.lean ====
section
/-! DEFINITION. What the KN-260 holds, block by block (Table 0-2), as plain data; the reasons a step can stop; and the
state after power-on. Meanings live in the other files of Machine/. -/

namespace Sys2Proof.Machine

/-! ## Codes of Table 12-12 -/

/-- Object kinds of a note frame. -/
inductive ObjectKind where
  | note | separator | double | foreign
  deriving DecidableEq, Repr

/-- Orientations of a note. -/
inductive Orientation where
  | faceUpHead | faceUpTail | faceDownHead | faceDownTail
  deriving DecidableEq, Repr

/-- Verdicts of the inspection unit. -/
inductive NoteVerdict where
  | genuine | suspect | unverified
  deriving DecidableEq, Repr

/-- Fitness of a note. -/
inductive Fitness where
  | fit | worn | unfit
  deriving DecidableEq, Repr

/-- Reasons of a REJECT destination, in Table 3-3 order. -/
inductive RejectReason where
  | card | tied | long | unidentified | double | foreign | inspectionFault | halted | orphan | unverified
  | unknownDenomination | ruleReject | noRule | classFull | holdUnavailable
  deriving DecidableEq, Repr

/-- Transit entry states (Table 1-5). -/
inductive EntryState where
  | seen | routed | deflecting | awaitingArrival
  deriving DecidableEq, Repr

/-- Pocket states (Table 5-3). -/
inductive PocketState where
  | disabled | unaccounted | open | full | closing | complete | strapping | awaitingRemoval | inhibited | fault
  deriving DecidableEq, Repr

/-- Statuses of a bundle record. -/
inductive BundleStatus where
  | strapped | strapFailed | strapTimeout | removed | discardedFault | cleared
  deriving DecidableEq, Repr

/-- States of a deposit context in use (Table 6-2). A FREE context is one that is not in `DepositUnit.contexts`. -/
inductive ContextState where
  | active | draining | recordPending
  deriving DecidableEq, Repr

/-- How a deposit stopped taking notes (Table 6-1). -/
inductive EndKind where
  | card | endCard | forced | aborted
  deriving DecidableEq, Repr

/-- Outcomes of a deposit (Table 6-5). -/
inductive DepositResult where
  | balanced | over | short | undeclared | saturated
  deriving DecidableEq, Repr

/-- Line states (Table 8-2). -/
inductive LineState where
  | standby | ready | run | drain | haltStopping | haltStopped
  deriving DecidableEq, Repr

/-- Halt causes (Table 8-4). -/
inductive HaltCause where
  | jamAtEntry | transitOverflow | missingArrival | strayArrival | looseOverflow | noDepositContext
  | transportStopped | command
  deriving DecidableEq, Repr

/-- Feed-hold reasons (Table 8-5). -/
inductive FeedReason where
  | lineNotRun | transitFull | intakeOverrun | classBlocked | looseNearFull | contextShortage | recordBacklog
  | operator
  deriving DecidableEq, Repr

/-- Event kinds, in the priority order of Table 11-2. -/
inductive EventKind where
  | halted | pocketFault | intakeOverrun | classBlocked | looseNearFull | contextShortage | strapFailed | watchHit
  | declarationMissing | strapLate | bankSwapped | pocketEyeChange | feedIdle | linkError | forwardDrop | commandDrop
  deriving DecidableEq, Repr

/-- Line counters, in the page order of Table 10-5. -/
inductive Counter where
  | linkCheckErrors | forwardDrops | commandDrops | foreignNoteFrames | intakeFramesLost | phantomFrames | lateFrames
  | debris | untrackedObjects | orphans | orphanInDoubt | lateStrapReports | watchHits
  deriving DecidableEq, Repr

/-- Refusal codes of a reply (Table 10-3). -/
inductive RefusalCode where
  | state | badIndex | badLength | badDigit | duplicateCard | listFull | unknownCard | cardOpen | invalidTables
  | geometry | swapPending | eyeNotEmpty | unknownKind
  deriving DecidableEq, Repr

/-! ## Transport Tracker (chapter 1) and the frames of the Identification Unit (chapter 2) -/

/-- The entry eye with what each state holds (Table 1-2). -/
inductive EntryEye where
  | clear
  | blocked (lead jam : Position)
  | void
  deriving DecidableEq, Repr

/-- The card number of a note frame as R24 takes it. -/
inductive CardField where
  | absent
  | unreadable
  | number (n : Nat)
  deriving DecidableEq, Repr

/-- A note frame waiting in the intake FIFO: the fields of Table 12-3 with their codes as received (R24 interprets them
at the take). -/
structure RawNote where
  edge : Position
  kind : Byte
  fault : Bool
  denomination : Byte
  series : Byte
  orientation : Byte
  verdict : Byte
  fitness : Byte
  card : List Byte
  serial : List Byte
  deriving DecidableEq, Repr

/-- The contents of a note frame after R24. -/
structure NoteContents where
  kind : ObjectKind
  fault : Bool
  denomination : Option DenomNo
  series : Fin 8
  orientation : Orientation
  verdict : NoteVerdict
  fitness : Fitness
  card : CardField
  serial : List Byte
  deriving DecidableEq, Repr

/-- What an entry was resolved as (R30). -/
inductive Resolution where
  | frame (n : NoteContents)
  | unidentified
  deriving DecidableEq, Repr

/-- The outcome of routing (chapter 3). -/
inductive Destination where
  | reject (r : RejectReason)
  | hold
  | cls (c : ClassNo)
  deriving DecidableEq, Repr

/-- A transit entry (Table 1-4). `none` is the table's "absent"; a resolved entry's deposit `none` is an orphan's or a
card's. -/
structure Entry where
  seq : Nat
  lead : Position
  trail : Position
  length : Nat
  long : Bool
  tied : Bool
  state : EntryState
  resolution : Option Resolution
  deposit : Option Nat
  generation : Option Nat
  faceValue : Option Nat
  denomination : Option DenomNo
  destination : Option Destination
  pocket : Option PocketNo
  prediction : Position
  decision : Position
  gateOn : Option Position
  gateOff : Option Position
  windowStart : Option Position
  windowEnd : Option Position
  arrivalSeen : Bool
  deriving DecidableEq, Repr

/-- TRK (Table 1-11). -/
structure Tracker where
  position : Position
  phase : Nat
  eye : EntryEye
  queue : List Entry
  nextSeq : Nat
  deriving DecidableEq, Repr

/-- IDU (Table 2-1). -/
structure Identification where
  fifo : List RawNote
  overrun : Bool
  deriving DecidableEq, Repr

/-! ## Routing Engine (chapter 3) -/

/-- The last-hit record (R43). The deposit is 0 for an orphan. -/
structure LastHit where
  index : Fin 32
  serial : List Byte
  deposit : Nat
  seq : Nat
  deriving DecidableEq, Repr

/-- RTE (Table 3-2). -/
structure RoutingEngine where
  hits : Vector Nat 32
  lastHit : Option LastHit
  deriving DecidableEq, Repr

/-! ## Pocket Monitor (chapter 5) -/

/-- What a pocket is for, strapped or loose (Table 5-1). -/
inductive PocketKind where
  | strapped (bundleSize : Nat)
  | loose (capacity allowance : Nat)
  deriving DecidableEq, Repr

/-- A pocket's assignment (R71). -/
structure Assignment where
  cls : Option ClassNo
  kind : PocketKind
  pure : Bool
  deriving DecidableEq, Repr

/-- One entry of a contribution list (Table 5-2). Deposit 0 stands for orphans and cards. -/
structure Contribution where
  deposit : Nat
  committed : Nat
  delivered : Nat
  deriving DecidableEq, Repr

/-- A strap order waiting in its slot (R81). -/
structure StrapOrder where
  bundle : Option Nat
  cls : Option ClassNo
  count : Nat
  short : Bool
  deriving DecidableEq, Repr

/-- A bundle record waiting in its slot (R95). -/
structure BundleRecord where
  bundle : Option Nat
  cls : Option ClassNo
  status : BundleStatus
  short : Bool
  count : Nat
  cardsHeld : Nat
  unlisted : Nat
  pairs : List (Nat × Nat)
  deriving DecidableEq, Repr

/-- A pocket record (Table 5-2). `strapTimer` holds, while the timer runs, the strap timeout in ms it was started with
(R82; log entry 5). -/
structure Pocket where
  state : PocketState
  assignment : Option Assignment
  limit : Nat
  committed : Nat
  held : Nat
  cardsHeld : Nat
  bundle : Option Nat
  contributions : List Contribution
  unlistedCommitted : Nat
  unlistedDelivered : Nat
  short : Bool
  changeover : Bool
  unaccounted : Bool
  strapOrder : Option StrapOrder
  record : Option BundleRecord
  strapTimer : Option Nat
  arrivalEye : Bool
  emptyEye : Bool
  stackEye : Bool
  emptyDelta : Bool
  stackDelta : Bool
  deriving DecidableEq, Repr

/-- PKM. `blocked` is the blocked-class set, bit c for class c. -/
structure PocketMonitor where
  pockets : Vector Pocket 16
  nextBundle : Nat
  blocked : BitVec 24
  deriving DecidableEq, Repr

/-! ## Gate Driver (chapter 4) -/

/-- A gate: its state (on is ON) and its deflecting count (Table 4-1). -/
structure Gate where
  on : Bool
  deflecting : Nat
  deriving DecidableEq, Repr

/-- GDR: the gates by pocket. Pocket 1 has no gate; its place stays OFF and 0, as R179 reports it. -/
structure GateDriver where
  gates : Vector Gate 16
  deriving DecidableEq, Repr

/-! ## Deposit Unit (chapter 6) -/

/-- A declaration (Table 6-3). -/
structure Declaration where
  card : Nat
  value : Digits
  counts : List (DenomNo × Nat)
  reference : List Byte
  deriving DecidableEq, Repr

/-- A deposit context in use (Table 6-1). -/
structure Context where
  state : ContextState
  seq : Nat
  card : Option Nat
  declaration : Option Declaration
  openGen : Nat
  closeGen : Option Nat
  endKind : Option EndKind
  assigned : Nat
  inTransit : Nat
  credited : Vector Nat 16
  totalCredited : Nat
  countSaturated : Bool
  value : Digits
  valueSaturated : Bool
  held : Nat
  rejects : Vector Nat 13
  inDoubt : Nat
  deriving DecidableEq, Repr

/-- DPU. `contexts` holds the contexts that are not FREE, the oldest opening first; the others of the four are FREE and
hold nothing (R99; log entry 9). `completion` is the completion order, by deposit sequence. -/
structure DepositUnit where
  contexts : List Context
  completion : List Nat
  declarations : List Declaration
  nextDeposit : Nat
  deriving DecidableEq, Repr

/-! ## Table Store (chapter 7) -/

/-- A denomination entry. -/
structure Denomination where
  enabled : Bool
  face : Nat
  deriving DecidableEq, Repr

/-- The result of a routing rule. -/
inductive RuleResult where
  | cls (c : ClassNo)
  | hold
  | reject
  deriving DecidableEq, Repr

/-- A routing rule; a set holds member k when its bit k is 1 (Table 12-1). -/
structure Rule where
  denominations : BitVec 16
  series : BitVec 8
  fitness : BitVec 3
  orientations : BitVec 4
  result : RuleResult
  deriving DecidableEq, Repr

/-- A class. -/
structure ClassDef where
  pockets : List PocketNo
  bundleSize : Nat
  pure : Bool
  deriving DecidableEq, Repr

/-- A loose-limits entry. -/
structure LooseLimit where
  capacity : Nat
  allowance : Nat
  deriving DecidableEq, Repr

/-- A watch-list entry with its fields as received (R128). Length 0 is unused. -/
structure WatchEntry where
  length : Byte
  pattern : List Byte
  wildcards : BitVec 16
  denomination : Byte
  action : Byte
  deriving DecidableEq, Repr

/-- A bank (Table 7-1). -/
structure Bank where
  denominations : Vector Denomination 16
  rules : Vector Rule 48
  classes : Vector ClassDef 24
  loose : Vector LooseLimit 16
  watch : Vector WatchEntry 32
  deriving DecidableEq, Repr

/-- The defined geometry of a pocket (Table 7-5). Pocket 1 uses P and W alone. -/
structure Geometry where
  g : Nat
  a : Nat
  h : Nat
  p : Nat
  w : Nat
  deriving DecidableEq, Repr

/-- The line parameters (Table 7-5). -/
structure LineParameters where
  prescaler : Nat
  dInsp : Nat
  tolerance : Nat
  dDec : Nat
  minGap : Nat
  minLength : Nat
  maxLength : Nat
  strapTimeout : Nat
  feedIdle : Nat
  inspectionStation : Option Nat
  strappingStation : Option Nat
  bundleBase : Nat
  geometry : Vector (Option Geometry) 16
  deriving DecidableEq, Repr

/-- TBS (R126). -/
structure TableStore where
  active : Bank
  shadow : Bank
  generation : Nat
  swapPending : Bool
  params : LineParameters
  deriving DecidableEq, Repr

/-! ## Line Supervisor (chapter 8) -/

/-- LSV (Table 8-1). `further` and `holds` are sets with bit k for the member of code k; `idleMark` is `none` while the
feed-idle watch is disarmed; `running` is the level of RUNNING last seen (R147); `stopScheduled` says that the stop event
of R149 step 4 is due. -/
structure LineSupervisor where
  line : LineState
  reason : Option HaltCause
  further : BitVec 8
  holds : BitVec 8
  stopRequest : Bool
  running : Bool
  stopScheduled : Bool
  idleMark : Option Position
  idleReached : Bool
  idleRaised : Bool
  deriving DecidableEq, Repr

/-! ## Line Link (chapter 9), Command Processor (chapter 10), Event Unit (chapter 11) -/

/-- The receiver (R161): HUNTING, or collecting, with the bytes after SYNC received so far. -/
inductive Receiver where
  | hunting
  | collecting (got : List Byte)
  deriving DecidableEq, Repr

/-- The sources of the outbound arbiter (Table 9-6). -/
inductive Source where
  | reply | depositRecord | strapOrder | bundleRecord | event | forward
  deriving DecidableEq, Repr

/-- The frame in the transmit slot, whole, with the source it came from. -/
structure TxFrame where
  source : Source
  bytes : List Byte
  deriving DecidableEq, Repr

/-- LNK (Table 9-1). `station` is `none` while the part is unaddressed. -/
structure LinkInterface where
  station : Option Nat
  receiver : Receiver
  forward : List (List Byte)
  slot : Option TxFrame
  deriving DecidableEq, Repr

/-- A member of the command queue (chapter 10). -/
structure QueuedCommand where
  src : Byte
  kind : Byte
  corr : Byte
  payload : List Byte
  broadcast : Bool
  deriving DecidableEq, Repr

/-- A member of the reply queue. -/
structure Reply where
  dest : Byte
  corr : Byte
  payload : List Byte
  deriving DecidableEq, Repr

/-- CMP (Table 10-1). -/
structure CommandProcessor where
  commands : List QueuedCommand
  replies : List Reply
  deriving DecidableEq, Repr

/-- EVU (Table 11-1). Sets have bit k for the kind of code k; `attn` is the ATTN output. -/
structure EventUnit where
  pending : BitVec 16
  enable : BitVec 16
  owed : Bool
  frameNumber : BitVec 8
  attn : Bool
  counters : Vector Nat 13
  deriving DecidableEq, Repr

/-! ## The whole part -/

/-- The state of the KN-260, and the commands that wait (the model's own queue, first in, first out: log entry 2). -/
structure State where
  trk : Tracker
  idu : Identification
  rte : RoutingEngine
  pkm : PocketMonitor
  gdr : GateDriver
  dpu : DepositUnit
  tbs : TableStore
  lsv : LineSupervisor
  lnk : LinkInterface
  cmp : CommandProcessor
  evu : EventUnit
  pending : List Instr
  deriving DecidableEq, Repr

/-- Reasons the machine stops with a fault: none. The manual names no behaviour at which the part stops (a halt of the
line is a state of the part, not an end of its behaviour), and gives every step an effect. -/
inductive Fault where
  deriving DecidableEq, Repr

/-- Reasons a command has no meaning. -/
inductive Refusal where
  /-- Raised by `exec` alone, for a row that has no meaning in the model yet: safe. No row is left so. -/
  | notModelled (mnemonic : String)
  deriving DecidableEq, Repr

/-! ## Reset -/

/-- The blank bank of Table 7-2. -/
def Bank.blank : Bank where
  denominations := Vector.replicate 16 { enabled := false, face := 1 }
  rules := Vector.replicate 48 { denominations := 0, series := 0, fitness := 0, orientations := 0, result := .reject }
  classes := Vector.replicate 24 { pockets := [], bundleSize := 0, pure := false }
  loose := Vector.replicate 16 { capacity := 200, allowance := 8 }
  watch := Vector.replicate 32 { length := 0, pattern := List.replicate 12 0, wildcards := 0, denomination := 0, action := 0 }

/-- The line parameters after power-on and the reset input (Table 7-5). -/
def LineParameters.afterReset : LineParameters where
  prescaler := 1
  dInsp := 160
  tolerance := 8
  dDec := 400
  minGap := 32
  minLength := 16
  maxLength := 192
  strapTimeout := 2000
  feedIdle := 0
  inspectionStation := none
  strappingStation := none
  bundleBase := 0
  geometry := Vector.replicate 16 none

/-- A pocket record after reset with its three eyes inactive (Table 5-2). -/
def Pocket.afterReset : Pocket where
  state := .disabled
  assignment := none
  limit := 0
  committed := 0
  held := 0
  cardsHeld := 0
  bundle := none
  contributions := []
  unlistedCommitted := 0
  unlistedDelivered := 0
  short := false
  changeover := false
  unaccounted := false
  strapOrder := none
  record := none
  strapTimer := none
  arrivalEye := false
  emptyEye := false
  stackEye := false
  emptyDelta := false
  stackDelta := false

/-- The part right after power-on: Tables 1-11, 2-1, 3-2, 4-1, 5-2, R124, R126, Tables 7-5, 8-1, 9-1, 10-1, 11-1. The
levels of the inputs are DESIGN CHOICE (log entry 8): straps 7, every eye and RUNNING inactive. -/
def State.reset : State where
  trk := { position := 0, phase := 0, eye := .clear, queue := [], nextSeq := 1 }
  idu := { fifo := [], overrun := false }
  rte := { hits := Vector.replicate 32 0, lastHit := none }
  pkm := { pockets := Vector.replicate 16 Pocket.afterReset, nextBundle := 1, blocked := 0 }
  gdr := { gates := Vector.replicate 16 { on := false, deflecting := 0 } }
  dpu := { contexts := [], completion := [], declarations := [], nextDeposit := 1 }
  tbs := { active := Bank.blank, shadow := Bank.blank, generation := 0, swapPending := false,
           params := LineParameters.afterReset }
  lsv := { line := .standby, reason := none, further := 0, holds := 1, stopRequest := false, running := false,
           stopScheduled := false, idleMark := none, idleReached := false, idleRaised := false }
  lnk := { station := some 7, receiver := .hunting, forward := [], slot := none }
  cmp := { commands := [], replies := [] }
  evu := { pending := 0, enable := 0, owed := false, frameNumber := 0, attn := false,
           counters := Vector.replicate 13 0 }
  pending := []

end Sys2Proof.Machine
end

