-- ==== Sys2Proof/Machine/Operands.lean ====
section
/-! DEFINITION. The forms in which the part reads and writes its operands: the codes of Table 12-12, numbers and sets on
the link (Table 12-1), packed decimal and the decimal accumulators (R116, R119), the frame check (R162), note frames
(Table 12-3, R24), and the payloads of the management commands (Tables 12-5 to 12-7, R128, R136, R193). -/

namespace Sys2Proof.Machine

/-! ## Codes (Table 12-12) -/

/-- Object kind codes. -/
def ObjectKind.code : ObjectKind → Nat
  | .note => 0
  | .separator => 1
  | .double => 2
  | .foreign => 3

/-- Object kind of a received code; `none` is an unassigned code. -/
def ObjectKind.ofCode (b : Byte) : Option ObjectKind :=
  if b = 0 then some .note else if b = 1 then some .separator else if b = 2 then some .double
  else if b = 3 then some .foreign else none

/-- Orientation of a received code. -/
def Orientation.ofCode (b : Byte) : Option Orientation :=
  if b = 0 then some .faceUpHead else if b = 1 then some .faceUpTail else if b = 2 then some .faceDownHead
  else if b = 3 then some .faceDownTail else none

/-- Orientation codes, which are also the bit positions of an orientation set. -/
def Orientation.code : Orientation → Nat
  | .faceUpHead => 0
  | .faceUpTail => 1
  | .faceDownHead => 2
  | .faceDownTail => 3

/-- Verdict of a received code. -/
def NoteVerdict.ofCode (b : Byte) : Option NoteVerdict :=
  if b = 0 then some .genuine else if b = 1 then some .suspect else if b = 2 then some .unverified else none

/-- Fitness of a received code. -/
def Fitness.ofCode (b : Byte) : Option Fitness :=
  if b = 0 then some .fit else if b = 1 then some .worn else if b = 2 then some .unfit else none

/-- Fitness codes, which are also the bit positions of a fitness set. -/
def Fitness.code : Fitness → Nat
  | .fit => 0
  | .worn => 1
  | .unfit => 2

/-- Reject reason codes. -/
def RejectReason.code : RejectReason → Nat
  | .card => 0
  | .tied => 1
  | .long => 2
  | .unidentified => 3
  | .double => 4
  | .foreign => 5
  | .inspectionFault => 6
  | .halted => 7
  | .orphan => 8
  | .unverified => 9
  | .unknownDenomination => 10
  | .ruleReject => 11
  | .noRule => 12
  | .classFull => 13
  | .holdUnavailable => 14

/-- The place of a reason among the 13 reject counts of a deposit: Table 3-3 order without CARD and ORPHAN (R52, R121). -/
def RejectReason.countIndex : RejectReason → Option (Fin 13)
  | .card => none
  | .tied => some 0
  | .long => some 1
  | .unidentified => some 2
  | .double => some 3
  | .foreign => some 4
  | .inspectionFault => some 5
  | .halted => some 6
  | .orphan => none
  | .unverified => some 7
  | .unknownDenomination => some 8
  | .ruleReject => some 9
  | .noRule => some 10
  | .classFull => some 11
  | .holdUnavailable => some 12

/-- Transit entry state codes. -/
def EntryState.code : EntryState → Nat
  | .seen => 0
  | .routed => 1
  | .deflecting => 2
  | .awaitingArrival => 3

/-- Pocket state codes, in Table 5-3 order. -/
def PocketState.code : PocketState → Nat
  | .disabled => 0
  | .unaccounted => 1
  | .open => 2
  | .full => 3
  | .closing => 4
  | .complete => 5
  | .strapping => 6
  | .awaitingRemoval => 7
  | .inhibited => 8
  | .fault => 9

/-- Bundle status codes. -/
def BundleStatus.code : BundleStatus → Nat
  | .strapped => 0
  | .strapFailed => 1
  | .strapTimeout => 2
  | .removed => 3
  | .discardedFault => 4
  | .cleared => 5

/-- Context state codes. Code 0 is FREE, which no page reports. -/
def ContextState.code : ContextState → Nat
  | .active => 1
  | .draining => 2
  | .recordPending => 3

/-- End kind codes. -/
def EndKind.code : EndKind → Nat
  | .card => 0
  | .endCard => 1
  | .forced => 2
  | .aborted => 3

/-- Outcome codes. -/
def DepositResult.code : DepositResult → Nat
  | .balanced => 0
  | .over => 1
  | .short => 2
  | .undeclared => 3
  | .saturated => 4

/-- Line state codes. -/
def LineState.code : LineState → Nat
  | .standby => 0
  | .ready => 1
  | .run => 2
  | .drain => 3
  | .haltStopping => 4
  | .haltStopped => 5

/-- Halt cause codes, in Table 8-4 order. -/
def HaltCause.code : HaltCause → Nat
  | .jamAtEntry => 0
  | .transitOverflow => 1
  | .missingArrival => 2
  | .strayArrival => 3
  | .looseOverflow => 4
  | .noDepositContext => 5
  | .transportStopped => 6
  | .command => 7

/-- Feed-hold reason codes, in Table 8-5 order. -/
def FeedReason.code : FeedReason → Nat
  | .lineNotRun => 0
  | .transitFull => 1
  | .intakeOverrun => 2
  | .classBlocked => 3
  | .looseNearFull => 4
  | .contextShortage => 5
  | .recordBacklog => 6
  | .operator => 7

/-- Event kind codes: Table 11-2 order less 1. -/
def EventKind.code : EventKind → Nat
  | .halted => 0
  | .pocketFault => 1
  | .intakeOverrun => 2
  | .classBlocked => 3
  | .looseNearFull => 4
  | .contextShortage => 5
  | .strapFailed => 6
  | .watchHit => 7
  | .declarationMissing => 8
  | .strapLate => 9
  | .bankSwapped => 10
  | .pocketEyeChange => 11
  | .feedIdle => 12
  | .linkError => 13
  | .forwardDrop => 14
  | .commandDrop => 15

/-- The place of a counter on the COUNTERS page (Table 10-5). -/
def Counter.index : Counter → Fin 13
  | .linkCheckErrors => 0
  | .forwardDrops => 1
  | .commandDrops => 2
  | .foreignNoteFrames => 3
  | .intakeFramesLost => 4
  | .phantomFrames => 5
  | .lateFrames => 6
  | .debris => 7
  | .untrackedObjects => 8
  | .orphans => 9
  | .orphanInDoubt => 10
  | .lateStrapReports => 11
  | .watchHits => 12

/-- Refusal codes, in Table 10-3 order from 1; 0 stands for none. -/
def RefusalCode.code : RefusalCode → Nat
  | .state => 1
  | .badIndex => 2
  | .badLength => 3
  | .badDigit => 4
  | .duplicateCard => 5
  | .listFull => 6
  | .unknownCard => 7
  | .cardOpen => 8
  | .invalidTables => 9
  | .geometry => 10
  | .swapPending => 11
  | .eyeNotEmpty => 12
  | .unknownKind => 13

/-- The rank of a source at the arbiter (Table 9-6): 1 is the highest. -/
def Source.rank : Source → Nat
  | .reply => 1
  | .depositRecord => 2
  | .strapOrder => 3
  | .bundleRecord => 4
  | .event => 5
  | .forward => 6

/-- Pocket numbers: pocket k of the manual is `k - 1` here. -/
def pocketNumber (k : PocketNo) : Nat := k.val + 1

/-- The pocket a number names, for 1 to 16. -/
def pocketOfNumber (n : Nat) : Option PocketNo :=
  if h : 1 ≤ n ∧ n ≤ 16 then some ⟨n - 1, by omega⟩ else none

/-- Pocket 1, the reject pocket. -/
def pocket1 : PocketNo := 0

/-- Pocket 2, the hold pocket. -/
def pocket2 : PocketNo := 1

/-- The sixteen pockets in increasing number. -/
def allPockets : List PocketNo := [0, 1, 2, 3, 4, 5, 6, 7, 8, 9, 10, 11, 12, 13, 14, 15]

/-- The classes in increasing number. -/
def allClasses : List ClassNo :=
  [0, 1, 2, 3, 4, 5, 6, 7, 8, 9, 10, 11, 12, 13, 14, 15, 16, 17, 18, 19, 20, 21, 22, 23]

/-! ## Reading numbers from a payload (R192: the most significant byte first) -/

/-- The byte at an offset. Every reader of a payload has tested its length first. -/
def byteAt (p : List Byte) (i : Nat) : Byte := p.getD i 0

/-- A Count8 or Code field. -/
def count8At (p : List Byte) (i : Nat) : Nat := (byteAt p i).toNat

/-- A Flag field: a byte that is not 0 is set (R193). -/
def flagAt (p : List Byte) (i : Nat) : Bool := byteAt p i != 0

/-- A Number16 field. -/
def number16At (p : List Byte) (i : Nat) : Nat := (byteAt p i).toNat * 256 + (byteAt p (i + 1)).toNat

/-- A Number32 field. -/
def number32At (p : List Byte) (i : Nat) : Nat := number16At p i * 65536 + number16At p (i + 2)

/-! ## Writing numbers -/

/-- Two bytes of a 16-bit field, the most significant first. -/
def bytes16 (w : BitVec 16) : List Byte := [w.extractLsb' 8 8, w.extractLsb' 0 8]

/-- Four bytes of a 32-bit field, the most significant first. -/
def bytes32 (w : BitVec 32) : List Byte :=
  [w.extractLsb' 24 8, w.extractLsb' 16 8, w.extractLsb' 8 8, w.extractLsb' 0 8]

/-- A Count8 field. -/
def count8 (n : Nat) : List Byte := [if n < 256 then BitVec.ofNat 8 n else Config.beyondCount8 n]

/-- A Number16 field. -/
def number16 (n : Nat) : List Byte := bytes16 (if n < 65536 then BitVec.ofNat 16 n else Config.beyondNumber16 n)

/-- A Number32 field. -/
def number32 (n : Nat) : List Byte :=
  bytes32 (if n < 4294967296 then BitVec.ofNat 32 n else Config.beyondNumber32 n)

/-- A Code field that may be absent: 0xFF (Table 12-1). -/
def codeOr (c : Option Nat) : List Byte := count8 (c.getD 255)

/-- A Flag field. -/
def flag (b : Bool) : List Byte := [if b then 1 else 0]

/-- A card number on the link: 0xFFFFFFFF for unreadable or none (Table 12-1). -/
def cardNumber (c : Option Nat) : List Byte := number32 (c.getD 4294967295)

/-- A bundle number on the link: 0 for none (Table 12-1). -/
def bundleNumber (b : Option Nat) : List Byte := number32 (b.getD 0)

/-- A Number16 field that may be absent, with no absent value of its own (log entry 11). -/
def number16Or (tag : Nat) (n : Option Nat) : List Byte :=
  match n with
  | some n => number16 n
  | none => bytes16 (Config.absentNumber16 tag)

/-! ## Decimal digits -/

/-- The digits of a payload field in the order sent: two to a byte, the upper half first (R192). -/
def nibbles : List Byte → List Nat
  | [] => []
  | b :: bs => b.toNat / 16 :: b.toNat % 16 :: nibbles bs

/-- Whether every digit of a packed-decimal field is 0 to 9. -/
def digitsValid (bs : List Byte) : Bool := (nibbles bs).all (· ≤ 9)

/-- A packed-decimal field as digits, the least significant first. -/
def digitsOf (bs : List Byte) : Digits := ((nibbles bs).map (Fin.ofNat 10)).reverse

/-- Digits, given the most significant first, packed two to a byte. -/
def packDigits : Digits → List Byte
  | d :: e :: ds => BitVec.ofNat 8 (d.val * 16 + e.val) :: packDigits ds
  | _ => []

/-- A Value field (Table 12-1). -/
def valueField (v : Digits) : List Byte := packDigits v.reverse

/-- The number that digits, least significant first, stand for. -/
def digitsValue : Digits → Nat
  | [] => 0
  | d :: ds => d.val + 10 * digitsValue ds

/-- A number as `w` digits, least significant first. -/
def digitsOfNat : (w : Nat) → Nat → Digits
  | 0, _ => []
  | w + 1, n => Fin.ofNat 10 (n % 10) :: digitsOfNat w (n / 10)

/-- The fourteen-digit zero. -/
def zeroValue : Digits := List.replicate 14 0

/-- The accumulator maximum, 99,999,999,999,999. -/
def maxValue : Digits := List.replicate 14 9

/-- R116: digit by digit from the least significant upward; a position whose sum is 10 or more keeps the sum less 10 and
carries 1. Answers the digits and the carry out of the last position. -/
def addDigits : Nat → Digits → Digits → Digits × Nat
  | c, a :: as, b :: bs =>
    let sum := a.val + b.val + c
    if 10 ≤ sum then
      let rest := addDigits 1 as bs
      (Fin.ofNat 10 (sum - 10) :: rest.1, rest.2)
    else
      let rest := addDigits 0 as bs
      (Fin.ofNat 10 sum :: rest.1, rest.2)
  | c, _, _ => ([], c)

/-- R116: the credit of a face value to a counted value with its VALUE_SATURATED marker. -/
def creditValue (v : Digits) (saturated : Bool) (face : Nat) : Digits × Bool :=
  if saturated then (v, true)
  else
    let sum := addDigits 0 v (digitsOfNat 14 face)
    if sum.2 = 0 then (sum.1, false) else (maxValue, true)

/-- R119: the first unequal digit from the most significant decides the order. -/
def compareDigits : Digits → Digits → Ordering
  | a :: as, b :: bs =>
    match compareDigits as bs with
    | .eq => compare a.val b.val
    | o => o
  | _, _ => .eq

/-- R119: the larger less the smaller, digit by digit from the least significant with a decimal borrow. -/
def subDigits : Nat → Digits → Digits → Digits
  | borrow, a :: as, b :: bs =>
    if a.val < b.val + borrow then Fin.ofNat 10 (a.val + 10 - (b.val + borrow)) :: subDigits 1 as bs
    else Fin.ofNat 10 (a.val - (b.val + borrow)) :: subDigits 0 as bs
  | _, _, _ => []

/-! ## The frame check and the outer form of a frame (R161, R162, Table 9-2) -/

/-- One shift step of the check. -/
def crcShift (r : BitVec 16) : BitVec 16 := if r.msb then (r <<< 1) ^^^ 0x1021#16 else r <<< 1

/-- The check register after one byte: exclusive-or into the upper eight bits, then eight shift steps. -/
def crcByte (r : BitVec 16) (b : Byte) : BitVec 16 :=
  crcShift (crcShift (crcShift (crcShift (crcShift (crcShift (crcShift (crcShift
    (r ^^^ (b.setWidth 16 <<< 8)))))))))

/-- The check of the covered bytes, from DEST through the last payload byte. -/
def crc (covered : List Byte) : BitVec 16 := covered.foldl crcByte 0xFFFF#16

/-- SYNC (Table 9-2). -/
def syncByte : Byte := 0xC3

/-- A whole frame: SYNC, LENGTH, DEST, SRC, KIND, CORR, payload, CHECK. -/
def frameBytes (dest src kind corr : Byte) (payload : List Byte) : List Byte :=
  let covered := dest :: src :: kind :: corr :: payload
  syncByte :: BitVec.ofNat 8 (payload.length + 5) :: covered ++ bytes16 (crc covered)

/-- Broadcast (Table 9-2). -/
def broadcastStation : Byte := 255

/-! ## Note frames -/

/-- A character of a serial or a watch pattern: 0 to 9 or A to Z (R192). -/
def validChar (b : Byte) : Bool := (0x30 ≤ b.toNat && b.toNat ≤ 0x39) || (0x41 ≤ b.toNat && b.toNat ≤ 0x5A)

/-- R20, R193: the payload length equals the fixed part, 14 bytes, plus the serial length, which is at most 12. -/
def noteLengthOk (p : List Byte) : Bool :=
  decide (14 ≤ p.length) && decide (count8At p 13 ≤ 12) && decide (p.length = 14 + count8At p 13)

/-- The fields of a NOTE payload (Table 12-3). -/
def rawNoteOf (p : List Byte) : RawNote where
  edge := BitVec.ofNat 16 (number16At p 0)
  kind := byteAt p 2
  fault := flagAt p 3
  denomination := byteAt p 4
  series := byteAt p 5
  orientation := byteAt p 6
  verdict := byteAt p 7
  fitness := byteAt p 8
  card := (p.drop 9).take 4
  serial := (p.drop 14).take (count8At p 13)

/-- The decimal number that valid packed digits spell. -/
def packedNumber (bs : List Byte) : Nat := (nibbles bs).foldl (fun n d => 10 * n + d) 0

/-- A denomination code: 0 to 15, or unknown. -/
def denominationOf (b : Byte) : Option DenomNo := if h : b.toNat < 16 then some ⟨b.toNat, h⟩ else none

/-- R24: the field codes of a taken frame (Table 2-3). -/
def interpretNote (r : RawNote) : NoteContents where
  kind := (ObjectKind.ofCode r.kind).getD .foreign
  fault := r.fault || (ObjectKind.ofCode r.kind).isNone || decide (7 < r.series.toNat)
    || (Orientation.ofCode r.orientation).isNone || (NoteVerdict.ofCode r.verdict).isNone
    || (Fitness.ofCode r.fitness).isNone
  denomination := denominationOf r.denomination
  series := if r.series.toNat ≤ 7 then Fin.ofNat 8 r.series.toNat else 0
  orientation := (Orientation.ofCode r.orientation).getD .faceUpHead
  verdict := (NoteVerdict.ofCode r.verdict).getD .unverified
  fitness := (Fitness.ofCode r.fitness).getD .unfit
  card :=
    if ObjectKind.ofCode r.kind = some .separator then
      if digitsValid r.card then .number (packedNumber r.card) else .unreadable
    else .absent
  serial := if r.serial.all validChar then r.serial else []

/-! ## Line parameters (Table 12-7, R136) -/

/-- A value brought into a range. -/
def clamp (lo hi n : Nat) : Nat := if n < lo then lo else if hi < n then hi else n

/-- R136: a feed idle distance. -/
def adjustIdle (n : Nat) : Nat := if n = 0 then 0 else clamp 256 32767 n

/-- R136: a station, 1 to 62, or none. -/
def adjustStation (n : Nat) : Option Nat := if 1 ≤ n ∧ n ≤ 62 then some n else none

/-- A distance of the payload, at most 8191 (R136). -/
def distanceAt (p : List Byte) (i : Nat) : Nat := min (number16At p i) 8191

/-- The geometry record of a pocket at its offset. For pocket 1, G, A and H are not read (R193). -/
def geometryAt (p : List Byte) (k : PocketNo) : Option Geometry :=
  let o := 20 + 11 * k.val
  if flagAt p o then
    if k = pocket1 then some { g := 0, a := 0, h := 0, p := distanceAt p (o + 7), w := distanceAt p (o + 9) }
    else some { g := distanceAt p (o + 1), a := distanceAt p (o + 3), h := distanceAt p (o + 5),
                p := distanceAt p (o + 7), w := distanceAt p (o + 9) }
  else none

/-- The adjusted set that a SET_LINE_PARAMETERS payload carries (Table 12-7 read under Table 7-6). -/
def parametersOf (p : List Byte) : LineParameters where
  prescaler := clamp 1 16 (count8At p 0)
  dInsp := distanceAt p 1
  tolerance := clamp 1 64 (count8At p 3)
  dDec := distanceAt p 4
  minGap := distanceAt p 6
  minLength := clamp 1 63 (count8At p 8)
  maxLength := clamp 64 255 (count8At p 9)
  strapTimeout := clamp 100 10000 (number16At p 10)
  feedIdle := adjustIdle (number16At p 12)
  inspectionStation := adjustStation (count8At p 14)
  strappingStation := adjustStation (count8At p 15)
  bundleBase := number32At p 16
  geometry := #v[geometryAt p 0, geometryAt p 1, geometryAt p 2, geometryAt p 3, geometryAt p 4, geometryAt p 5,
    geometryAt p 6, geometryAt p 7, geometryAt p 8, geometryAt p 9, geometryAt p 10, geometryAt p 11,
    geometryAt p 12, geometryAt p 13, geometryAt p 14, geometryAt p 15]

/-! ## Declarations (Table 12-5) -/

/-- R193: the length a DECLARE payload states for itself. -/
def declareLengthOk (p : List Byte) : Bool :=
  let n := count8At p 11
  let r := count8At p (12 + 3 * n)
  decide (11 < p.length) && decide (n ≤ 16) && decide (12 + 3 * n < p.length) && decide (r ≤ 16)
    && decide (p.length = 13 + 3 * n + r)

/-- The (index, count) pairs of a DECLARE payload, `n` of them from offset `o`. -/
def declaredPairs (p : List Byte) : (n o : Nat) → List (Nat × Nat)
  | 0, _ => []
  | n + 1, o => (count8At p o, number16At p (o + 1)) :: declaredPairs p n (o + 3)

/-- The bytes of the declared value. -/
def declaredValueBytes (p : List Byte) : List Byte := (p.drop 4).take 7

/-- The reference of a DECLARE payload. -/
def declaredReference (p : List Byte) : List Byte :=
  let n := count8At p 11
  (p.drop (13 + 3 * n)).take (count8At p (12 + 3 * n))

/-- Whether the declared-count indices are in range and given once each (R103). -/
def pairsOk (ps : List (Nat × Nat)) : Bool := ps.all (fun q => q.1 ≤ 15) && decide ((ps.map Prod.fst).Nodup)

/-- The declaration of a DECLARE payload that has passed its tests. -/
def declarationOf (p : List Byte) : Declaration where
  card := number32At p 0
  value := digitsOf (declaredValueBytes p)
  counts := (declaredPairs p (count8At p 11) 12).map (fun q => (Fin.ofNat 16 q.1, q.2))
  reference := declaredReference p

/-! ## Table entries (Table 12-6, adjusted as Table 7-3 lays down) -/

/-- The sizes of the entries of the five table kinds. -/
def entrySize (kind : Nat) : Option Nat :=
  match kind with
  | 0 => some 5
  | 1 => some 7
  | 2 => some 6
  | 3 => some 3
  | 4 => some 17
  | _ => none

/-- How many entries a table has (Table 7-1). -/
def tableSize (kind : Nat) : Nat :=
  match kind with
  | 0 => 16
  | 1 => 48
  | 2 => 24
  | 3 => 16
  | 4 => 32
  | _ => 0

/-- The first index of a table (Table 7-1): 0, but 1 for the loose limits, which have one entry per pocket 1 to 16, the
pocket's number being its index (R135; log entry 29). -/
def tableBase (kind : Nat) : Nat := if kind = 3 then 1 else 0

/-- R193: the length of a LOAD_TABLE payload. -/
def loadLengthOk (p : List Byte) : Bool :=
  decide (3 ≤ p.length) &&
    match entrySize (count8At p 0) with
    | some size => decide (p.length = 3 + count8At p 2 * size)
    | none => true

/-- A denomination entry. -/
def denominationEntry (p : List Byte) (o : Nat) : Denomination where
  enabled := flagAt p o
  face := clamp 1 99999999 (number32At p (o + 1))

/-- A routing rule: a class above 23 or an unassigned result code becomes REJECT. -/
def ruleEntry (p : List Byte) (o : Nat) : Rule where
  denominations := BitVec.ofNat 16 (number16At p o)
  series := byteAt p (o + 2)
  fitness := (byteAt p (o + 3)).setWidth 3
  orientations := (byteAt p (o + 4)).setWidth 4
  result :=
    if count8At p (o + 5) = 0 then
      if h : count8At p (o + 6) < 24 then .cls ⟨count8At p (o + 6), h⟩ else .reject
    else if count8At p (o + 5) = 1 then .hold
    else .reject

/-- R128: pockets outside 3 to 16 and later listings of the same pocket are dropped, the others keep their order. -/
def listedPockets : List Byte → List PocketNo → List PocketNo
  | [], acc => acc
  | b :: bs, acc =>
    match pocketOfNumber b.toNat with
    | some k => if 2 ≤ k.val ∧ k ∉ acc then listedPockets bs (acc ++ [k]) else listedPockets bs acc
    | none => listedPockets bs acc

/-- A class entry. -/
def classEntry (p : List Byte) (o : Nat) : ClassDef where
  pockets := listedPockets ((p.drop o).take 4) []
  bundleSize := min (count8At p (o + 4)) 250
  pure := flagAt p (o + 5)

/-- A loose-limits entry. -/
def looseEntry (p : List Byte) (o : Nat) : LooseLimit where
  capacity := clamp 1 500 (number16At p o)
  allowance := min (count8At p (o + 2)) 31

/-- A watch-list entry, as received. -/
def watchEntry (p : List Byte) (o : Nat) : WatchEntry where
  length := byteAt p o
  pattern := (p.drop (o + 1)).take 12
  wildcards := BitVec.ofNat 16 (number16At p (o + 13))
  denomination := byteAt p (o + 15)
  action := byteAt p (o + 16)

/-- `count` entries, read from offset `o` on, written at consecutive indices from `i` on. -/
def loadEntries {α : Type} {n : Nat} (read : Nat → α) (size : Nat) : (count i o : Nat) → Vector α n → Vector α n
  | 0, _, _, v => v
  | count + 1, i, o, v => loadEntries read size count (i + 1) (o + size) (v.setIfInBounds i (read o))

/-- The shadow bank after an accepted LOAD_TABLE payload (R127). Each table stands in its vector from its first index on,
so the loose limits of index k, pocket k's, stand at place k - 1 (log entry 29). -/
def loadBank (b : Bank) (p : List Byte) : Bank :=
  let i := count8At p 1 - tableBase (count8At p 0)
  let n := count8At p 2
  match count8At p 0 with
  | 0 => { b with denominations := loadEntries (denominationEntry p) 5 n i 3 b.denominations }
  | 1 => { b with rules := loadEntries (ruleEntry p) 7 n i 3 b.rules }
  | 2 => { b with classes := loadEntries (classEntry p) 6 n i 3 b.classes }
  | 3 => { b with loose := loadEntries (looseEntry p) 3 n i 3 b.loose }
  | 4 => { b with watch := loadEntries (watchEntry p) 17 n i 3 b.watch }
  | _ => b

/-! ## Which row a queued command is (R173) -/

/-- LINE_CONTROL's KIND (Table 12-2). -/
def kindLineControl : Byte := 0x17

/-- FEED_HOLD's KIND. -/
def kindFeedHold : Byte := 0x1A

/-- LINE_CONTROL by its payload. -/
def lineControlRow (p : List Byte) : Instr :=
  match p with
  | [a] =>
    match a.toNat with
    | 0 => .lineControlRun
    | 1 => .lineControlStop
    | 2 => .lineControlHalt
    | 3 => .lineControlResume
    | 4 => .lineControlClear
    | _ => .parameterCodeRefusal
  | _ => .parameterCodeRefusal

/-- POCKET_CONTROL by its payload. -/
def pocketControlRow (p : List Byte) : Instr :=
  match p with
  | [a, _] =>
    match a.toNat with
    | 0 => .pocketControlInhibit
    | 1 => .pocketControlRelease
    | 2 => .pocketControlCloseShort
    | 3 => .pocketControlClear
    | _ => .parameterCodeRefusal
  | _ => .parameterCodeRefusal

/-- FEED_HOLD by its payload. -/
def feedHoldRow (p : List Byte) : Instr :=
  match p with
  | [f] => if f = 0 then .feedHoldClear else if f = 1 then .feedHoldSet else .parameterCodeRefusal
  | _ => .parameterCodeRefusal

/-- EVENT_ENABLE by its payload. -/
def eventEnableRow (p : List Byte) : Instr :=
  match p with
  | [f, _, _] => if f = 0 then .eventEnableClear else if f = 1 then .eventEnableSet else .parameterCodeRefusal
  | _ => .parameterCodeRefusal

/-- STATUS_QUERY by its payload. -/
def statusQueryRow (p : List Byte) : Instr :=
  match p with
  | [page, _] =>
    match page.toNat with
    | 0 => .statusQueryLine
    | 1 => .statusQueryPocket
    | 2 => .statusQueryDeposits
    | 3 => .statusQueryTransit
    | 4 => .statusQueryCounters
    | 5 => .statusQueryWatch
    | _ => .parameterCodeRefusal
  | _ => .parameterCodeRefusal

/-- The row of the opcode table that the take of a queued command is (R173 steps 1 to 3; KIND codes of Table 12-2). -/
def rowOf (q : QueuedCommand) : Instr :=
  match q.kind.toNat with
  | 0x10 => .loadTable
  | 0x11 => .copyActiveToShadow
  | 0x12 => .commitTables
  | 0x13 => .cancelCommit
  | 0x14 => .setLineParameters
  | 0x15 => .declare
  | 0x16 => .withdraw
  | 0x17 => lineControlRow q.payload
  | 0x18 => .forceDepositEnd
  | 0x19 => pocketControlRow q.payload
  | 0x1A => feedHoldRow q.payload
  | 0x1B => .intakeRestart
  | 0x1C => eventEnableRow q.payload
  | 0x1D => .eventClear
  | 0x1E => statusQueryRow q.payload
  | 0x1F => .countersClear
  | _ => .unknownKind

/-- The length of the payloads whose length and codes decide between a row and PARAMETER_CODE_REFUSAL (Table 12-5). -/
def codedLength (kind : Byte) : Nat :=
  match kind.toNat with
  | 0x17 => 1
  | 0x19 => 2
  | 0x1A => 1
  | 0x1C => 3
  | _ => 2

end Sys2Proof.Machine
end

