-- ==== Sys2Proof/Machine/Flags.lean ====
section
/-! DEFINITION. The latches the whole part shares: sets as words, the Event Unit's pending and enable sets with ATTN and
the EVENT-owed flag (R185 to R187), the line counters (R190), and the Line Supervisor's feed-hold reasons (R156) and halt
causes (R148, R149). -/

namespace Sys2Proof.Machine

/-! ## Sets as words (Table 12-1) -/

/-- Membership of the member with code `k`. -/
def setHas {n : Nat} (w : BitVec n) (k : Nat) : Bool := w.getLsbD k

/-- The set with the member of code `k` added. -/
def setAdd {n : Nat} (w : BitVec n) (k : Nat) : BitVec n := w ||| BitVec.twoPow n k

/-- The set with the member of code `k` removed. -/
def setDrop {n : Nat} (w : BitVec n) (k : Nat) : BitVec n := w &&& ~~~(BitVec.twoPow n k)

/-! ## Events -/

/-- The intersection of the pending set and the enable set. -/
def EventUnit.reported (u : EventUnit) : BitVec 16 := u.pending &&& u.enable

/-- New pending and enable sets. ATTN follows the intersection (R186); the EVENT-owed flag is set when the intersection
gains a member and cleared when it becomes empty (R187). -/
def EventUnit.withSets (u : EventUnit) (pending enable : BitVec 16) : EventUnit :=
  let now := pending &&& enable
  { u with
    pending := pending
    enable := enable
    attn := now != 0
    owed := if now = 0 then false else if now &&& ~~~u.reported = 0 then u.owed else true }

/-- R185: raise an event kind. -/
def State.raise (k : EventKind) (s : State) : State :=
  { s with evu := s.evu.withSets (setAdd s.evu.pending k.code) s.evu.enable }

/-- R190: add 1 to a line counter, which stands at 65535 once it reaches it. -/
def State.bump (c : Counter) (s : State) : State :=
  { s with evu := { s.evu with
      counters := s.evu.counters.set c.index (min (s.evu.counters[c.index] + 1) 65535) } }

/-- The members of an event set that has at least one: the first kind of Table 11-2 in it. Table 11-2 lists the levels in
order, so that is also the one of the highest level (R188). -/
def highestEvent (w : BitVec 16) : Option Nat := (List.range 16).find? (setHas w)

/-! ## Feed-hold reasons -/

/-- R156: set a feed-hold reason. -/
def State.hold (r : FeedReason) (s : State) : State :=
  { s with lsv := { s.lsv with holds := setAdd s.lsv.holds r.code } }

/-- R156: clear a feed-hold reason. -/
def State.release (r : FeedReason) (s : State) : State :=
  { s with lsv := { s.lsv with holds := setDrop s.lsv.holds r.code } }

/-- Hold a reason exactly while its owner's condition `b` is true. -/
def State.holdWhile (r : FeedReason) (b : Bool) (s : State) : State := if b then s.hold r else s.release r

/-- Whether a feed-hold reason is set. -/
def State.held (s : State) (r : FeedReason) : Bool := setHas s.lsv.holds r.code

/-- R156: the FEED_HOLD output, active exactly while the reason set is non-empty. -/
def State.feedHoldOutput (s : State) : Bool := s.lsv.holds != 0

/-! ## Halt causes -/

/-- Whether the line state is HALT, in either substate. -/
def LineState.isHalt : LineState → Bool
  | .haltStopping => true
  | .haltStopped => true
  | .standby => false
  | .ready => false
  | .run => false
  | .drain => false

/-- R149: entry to HALT-STOPPING with its reason. -/
def State.enterHaltStopping (c : HaltCause) (s : State) : State :=
  State.raise .halted
    { s with lsv := { s.lsv with
        line := .haltStopping
        reason := some c
        further := 0
        holds := setAdd s.lsv.holds FeedReason.lineNotRun.code
        stopRequest := true
        stopScheduled := !s.lsv.running } }

/-- R148: a halt cause given to LSV, acted on by the line state. -/
def State.haltCause (c : HaltCause) (s : State) : State :=
  match s.lsv.line with
  | .standby => s
  | .ready => s.enterHaltStopping c
  | .run => s.enterHaltStopping c
  | .drain => s.enterHaltStopping c
  | .haltStopping =>
    if s.lsv.reason = some c then s else { s with lsv := { s.lsv with further := setAdd s.lsv.further c.code } }
  | .haltStopped =>
    if s.lsv.reason = some c then s else { s with lsv := { s.lsv with further := setAdd s.lsv.further c.code } }

end Sys2Proof.Machine
end

