-- ==== Sys2Proof/Machine/Ops.lean ====
section
/-! DEFINITION. The operations the blocks share: positions on the belt (R2), the transit queue's entries, pocket records
and their limits (R71, R72), and wrapping numbers. -/

namespace Sys2Proof.Machine

/-! ## Positions (R2) -/

/-- diff(a, b): (a − b) mod 65536. -/
def diff (a b : Position) : Nat := (a - b).toNat

/-- Position `a` has reached `b`. -/
def reached (a b : Position) : Bool := decide (diff a b < 32768)

/-- The separation of two positions. -/
def separation (a b : Position) : Nat := min (diff a b) (diff b a)

/-- The span from `s` to `e` contains position `x`. -/
def spanContains (s e x : Position) : Bool := decide (diff x s ≤ diff e s)

/-- A position moved on by a distance, mod 65536. -/
def ahead (p : Position) (d : Nat) : Position := p + BitVec.ofNat 16 d

/-- A position moved back by a distance, mod 65536. -/
def behind (p : Position) (d : Nat) : Position := p - BitVec.ofNat 16 d

/-! ## Numbers that wrap past a top value to 1 -/

/-- The number after `n` among 1 to `top`. -/
def nextWrapping (top n : Nat) : Nat := if top ≤ n then 1 else n + 1

/-- The next entry sequence, deposit sequence or generation (R8, R100, R132). -/
def next16 (n : Nat) : Nat := nextWrapping 65535 n

/-- The next bundle number (R79). -/
def next32 (n : Nat) : Nat := nextWrapping 4294967295 n

/-! ## The transit queue -/

/-- The entry with a sequence. -/
def State.entry (s : State) (seq : Nat) : Option Entry := s.trk.queue.find? (fun e => e.seq == seq)

/-- Change the entry with a sequence; none there, and the change is applied to nothing (R15). -/
def State.updateEntry (seq : Nat) (f : Entry → Entry) (s : State) : State :=
  { s with trk := { s.trk with queue := s.trk.queue.map (fun e => if e.seq = seq then f e else e) } }

/-- The deposit an entry is counted under in a contribution list: 0 for an orphan or a card. -/
def Entry.depositKey (e : Entry) : Nat := e.deposit.getD 0

/-- A separator card (R31). -/
def Entry.isCard (e : Entry) : Bool :=
  match e.resolution with
  | some (.frame n) => decide (n.kind = .separator)
  | some .unidentified => false
  | none => false

/-- Whether an entry's resolution is UNIDENTIFIED. -/
def Entry.isUnidentified (e : Entry) : Bool := decide (e.resolution = some .unidentified)

/-! ## Banks as pockets see them (R71) -/

/-- Whether a class of the bank lists a pocket. -/
def Bank.lists (b : Bank) (c : ClassNo) (k : PocketNo) : Bool := decide (k ∈ b.classes[c].pockets)

/-- The class that lists a pocket. Commit check 2 leaves at most one. -/
def Bank.classOf (b : Bank) (k : PocketNo) : Option ClassNo := allClasses.find? (fun c => b.lists c k)

/-- The loose kind of a pocket. -/
def Bank.looseKind (b : Bank) (k : PocketNo) : PocketKind := .loose b.loose[k].capacity b.loose[k].allowance

/-- The kind a class gives a pocket it lists: strapped for a bundle size of 1 or more, loose for 0. -/
def Bank.kindFor (b : Bank) (c : ClassNo) (k : PocketNo) : PocketKind :=
  if b.classes[c].bundleSize = 0 then b.looseKind k else .strapped b.classes[c].bundleSize

/-- R71: the assignment the bank gives a pocket. -/
def Bank.assignmentFor (b : Bank) (k : PocketNo) : Option Assignment :=
  if k = pocket1 ∨ k = pocket2 then some { cls := none, kind := b.looseKind k, pure := false }
  else (b.classOf k).map (fun c => { cls := some c, kind := b.kindFor c k, pure := b.classes[c].pure })

/-! ## Pocket records -/

/-- Pocket `k`. -/
def State.pocket (s : State) (k : PocketNo) : Pocket := s.pkm.pockets[k]

/-- Committed plus held. -/
def Pocket.filled (p : Pocket) : Nat := p.committed + p.held

/-- A loose pocket (Table 5-1). -/
def Pocket.isLoose (p : Pocket) : Bool :=
  match p.assignment with
  | some a =>
    match a.kind with
    | .loose _ _ => true
    | .strapped _ => false
  | none => false

/-- A strapped pocket. -/
def Pocket.isStrapped (p : Pocket) : Bool :=
  match p.assignment with
  | some a =>
    match a.kind with
    | .loose _ _ => false
    | .strapped _ => true
  | none => false

/-- The class of the assignment, or none. -/
def Pocket.cls (p : Pocket) : Option ClassNo := p.assignment.bind Assignment.cls

/-- Whether the assignment is deposit-pure. -/
def Pocket.isPure (p : Pocket) : Bool :=
  match p.assignment with
  | some a => a.pure
  | none => false

/-- R72: the limit an assignment gives, with the stack eye at its level. -/
def Pocket.limitFor (p : Pocket) : Nat :=
  match p.assignment with
  | none => 0
  | some a =>
    match a.kind with
    | .strapped size => size
    | .loose capacity allowance =>
      if p.stackEye then max p.filled (min capacity (p.filled + allowance)) else max capacity p.filled

/-- A FULL pocket with committed 0 and held equal to its limit completes: strapped to COMPLETE, loose to
AWAITING_REMOVAL (R78, R81, R85). -/
def Pocket.completionTest (p : Pocket) : Pocket :=
  if p.state = .full ∧ p.committed = 0 ∧ p.held = p.limit then
    if p.isLoose then { p with state := .awaitingRemoval }
    else if p.isStrapped then { p with state := .complete } else p
  else p

/-- R72: the test of the pocket's state after its limit is set. -/
def Pocket.limitTest (p : Pocket) : Pocket :=
  let q :=
    if p.state = .open ∧ p.filled = p.limit then { p with state := .full }
    else if p.state = .full ∧ p.filled < p.limit then { p with state := .open }
    else p
  if q.isLoose then q.completionTest else q

/-- R72: set the limit and test the state. -/
def Pocket.setLimit (p : Pocket) : Pocket := Pocket.limitTest { p with limit := p.limitFor }

/-- Entry to OPEN. An OPEN pocket always lies below its limit (R77), so the state is tested at once (log entry 16). -/
def Pocket.enterOpen (p : Pocket) : Pocket := Pocket.limitTest { p with state := .open }

/-- Entry to OPEN with the limit set again (R85, R94, R97). -/
def Pocket.reopen (p : Pocket) : Pocket := Pocket.setLimit { p with state := .open }

/-- R91: take a new assignment from the bank. -/
def Pocket.takeAssignment (b : Bank) (k : PocketNo) (p : Pocket) : Pocket :=
  let q := { p with assignment := b.assignmentFor k, changeover := false }
  let q := { q with limit := q.limitFor }
  match q.assignment with
  | none => { q with state := .disabled }
  | some _ => if q.unaccounted then { q with state := .unaccounted } else q.enterOpen

/-- R88: closing completion of a CLOSING pocket, in the event in which committed is 0. -/
def Pocket.closingTest (b : Bank) (k : PocketNo) (p : Pocket) : Pocket :=
  if p.state = .closing ∧ p.committed = 0 then
    if 0 < p.held then
      let q := { p with short := p.short || decide (p.held < p.limit) }
      if p.isLoose then { q with state := .awaitingRemoval } else { q with state := .complete }
    else if p.changeover then p.takeAssignment b k
    else p.enterOpen
  else p

/-- R88: entry to CLOSING. -/
def Pocket.close (b : Bank) (k : PocketNo) (p : Pocket) : Pocket := Pocket.closingTest b k { p with state := .closing }

/-! ## Contribution lists -/

/-- Whether a list holds deposit `d`. -/
def listed (d : Nat) (l : List Contribution) : Bool := l.any (fun c => c.deposit == d)

/-- Change deposit `d`'s entry. -/
def changeListed (d : Nat) (f : Contribution → Contribution) (l : List Contribution) : List Contribution :=
  l.map (fun c => if c.deposit = d then f c else c)

/-- A place for deposit `d`: the list holds it, or fewer than 8 deposits. -/
def hasPlace (d : Nat) (l : List Contribution) : Bool := listed d l || decide (l.length < 8)

/-- R73 step 3 and R75: count a commitment of deposit `d`. Pocket 1 counts it unlisted when the list holds 8 others or
an unlisted commitment is outstanding. -/
def Pocket.addContribution (k : PocketNo) (d : Nat) (p : Pocket) : Pocket :=
  if listed d p.contributions then
    { p with contributions := changeListed d (fun c => { c with committed := c.committed + 1 }) p.contributions }
  else if k = pocket1 ∧ (0 < p.unlistedCommitted ∨ 8 ≤ p.contributions.length) then
    { p with unlistedCommitted := p.unlistedCommitted + 1 }
  else if p.contributions.length < 8 then
    { p with contributions := p.contributions ++ [{ deposit := d, committed := 1, delivered := 0 }] }
  else p

/-- R76: take a commitment of deposit `d` back; a contribution left with both counts 0 is removed. -/
def Pocket.dropContribution (k : PocketNo) (d : Nat) (p : Pocket) : Pocket :=
  if listed d p.contributions then
    let changed := changeListed d (fun c => { c with committed := c.committed - 1 }) p.contributions
    { p with contributions := changed.filter (fun c => !(c.deposit == d && c.committed == 0 && c.delivered == 0)) }
  else if k = pocket1 then { p with unlistedCommitted := p.unlistedCommitted - 1 }
  else p

/-- Table 4-2: a commitment of deposit `d` becomes a delivered note. -/
def Pocket.deliverContribution (k : PocketNo) (d : Nat) (p : Pocket) : Pocket :=
  if listed d p.contributions then
    let move := fun c : Contribution => { c with committed := c.committed - 1, delivered := c.delivered + 1 }
    { p with contributions := changeListed d move p.contributions }
  else if k = pocket1 then
    { p with unlistedCommitted := p.unlistedCommitted - 1, unlistedDelivered := p.unlistedDelivered + 1 }
  else p

end Sys2Proof.Machine
end

