-- ==== Sys2Proof/Machine/Pockets.lean ====
section
/-! DEFINITION. The Pocket Monitor's shared operations (chapter 5): commitment, delivery and withdrawal, closing, entry to
FAULT, bundle records, the held-back strap orders and removals, the near-full test, and the changeover of a pocket. -/

namespace Sys2Proof.Machine

/-! ## Storing a pocket record, and the blocked-class set (R77) -/

/-- Store a pocket record. -/
def State.storePocket (k : PocketNo) (p : Pocket) (s : State) : State :=
  { s with pkm := { s.pkm with pockets := s.pkm.pockets.set k p } }

/-- The blocked-class set with its feed-hold reason, held while the set is not empty. -/
def State.setBlocked (w : BitVec 24) (s : State) : State :=
  State.holdWhile .classBlocked (w != 0) { s with pkm := { s.pkm with blocked := w } }

/-- The classes of a bank that list a pocket, as a set. -/
def Bank.classMask (b : Bank) (k : PocketNo) : BitVec 24 :=
  allClasses.foldl (fun w c => if b.lists c k then setAdd w c.val else w) 0

/-- Store a pocket record; a pocket that enters OPEN frees the classes the active bank lists it for. -/
def State.putPocket (k : PocketNo) (p : Pocket) (s : State) : State :=
  if (s.pocket k).state ≠ .open ∧ p.state = .open then
    (s.storePocket k p).setBlocked (s.pkm.blocked &&& ~~~(s.tbs.active.classMask k))
  else s.storePocket k p

/-- Store the record of a pocket that has been through another state, or has been set OPEN by line clear: if it stands
OPEN it has entered OPEN, even from OPEN (R77; log entry 28). -/
def State.reenterPocket (k : PocketNo) (p : Pocket) (s : State) : State :=
  if p.state = .open then (s.storePocket k p).setBlocked (s.pkm.blocked &&& ~~~(s.tbs.active.classMask k))
  else s.storePocket k p

/-- R74, R77: class `c` found no eligible pocket. The event is raised as the class joins the set (log entry 27). -/
def State.blockClass (c : ClassNo) (s : State) : State :=
  if setHas s.pkm.blocked c.val then s
  else State.raise .classBlocked (s.setBlocked (setAdd s.pkm.blocked c.val))

/-! ## FAULT (R93) and strays (R64) -/

/-- R93: entry to FAULT. A pocket already there stays as it is. -/
def State.faultPocket (k : PocketNo) (s : State) : State :=
  if (s.pocket k).state = .fault then s
  else State.raise .pocketFault
    (s.putPocket k { s.pocket k with state := .fault, strapTimer := none, strapOrder := none })

/-- R64: what an object that no account explains does to pocket `k`. -/
def State.strayPocket (k : PocketNo) (s : State) : State :=
  match (s.pocket k).state with
  | .disabled => s.putPocket k { s.pocket k with unaccounted := true }
  | .unaccounted => s
  | .fault => s
  | .open => s.faultPocket k
  | .full => s.faultPocket k
  | .closing => s.faultPocket k
  | .complete => s.faultPocket k
  | .strapping => s.faultPocket k
  | .awaitingRemoval => s.faultPocket k
  | .inhibited => s.faultPocket k

/-! ## Commitment, delivery, withdrawal -/

/-- R79: the bundle number of the pocket's next commitment. -/
def Pocket.bundleOr (p : Pocket) (next : Nat) : Nat := p.bundle.getD next

/-- R73: one commitment more in a pocket record. -/
def Pocket.commit (k : PocketNo) (d next : Nat) (p : Pocket) : Pocket :=
  let q := Pocket.addContribution k d
    { p with bundle := some (p.bundleOr next), committed := p.committed + 1 }
  if q.state = .open ∧ q.filled = q.limit then { q with state := .full } else q

/-- R73, R75: PKM commits an entry of deposit `d` to pocket `k`. -/
def State.commit (k : PocketNo) (d : Nat) (s : State) : State :=
  let s := if k = pocket1 ∧ (s.pocket k).state = .unaccounted then s.faultPocket k else s
  let next := if (s.pocket k).bundle.isNone then next32 s.pkm.nextBundle else s.pkm.nextBundle
  State.putPocket k ((s.pocket k).commit k d s.pkm.nextBundle) { s with pkm := { s.pkm with nextBundle := next } }

/-- R76: one commitment of deposit `d` less in a pocket record. -/
def Pocket.withdrawCounts (k : PocketNo) (d : Nat) (p : Pocket) : Pocket :=
  let q := Pocket.dropContribution k d { p with committed := p.committed - 1 }
  if q.committed = 0 ∧ q.held = 0 then { q with bundle := none } else q

/-- R76: one commitment less, and the test of the pocket's state. -/
def Pocket.withdraw (b : Bank) (k : PocketNo) (d : Nat) (p : Pocket) : Pocket :=
  let q := p.withdrawCounts k d
  let q := if q.state = .full ∧ q.filled < q.limit then { q with state := .open } else q
  q.closingTest b k

/-- R76: PKM withdraws a commitment of deposit `d` from pocket `k`. -/
def State.withdraw (k : PocketNo) (d : Nat) (s : State) : State :=
  s.putPocket k ((s.pocket k).withdraw s.tbs.active k d)

/-- Table 4-2 and R78: one delivery in a pocket record, and the test of its state. -/
def Pocket.deliver (b : Bank) (k : PocketNo) (d : Nat) (card : Bool) (p : Pocket) : Pocket :=
  let q := Pocket.deliverContribution k d
    { p with
      committed := p.committed - 1
      held := p.held + 1
      cardsHeld := if card && decide (k = pocket1) then p.cardsHeld + 1 else p.cardsHeld }
  q.completionTest.closingTest b k

/-- R63 step 2: PKM counts an arrival into pocket `k`. -/
def State.deliverTo (k : PocketNo) (d : Nat) (card : Bool) (s : State) : State :=
  s.putPocket k ((s.pocket k).deliver s.tbs.active k d card)

/-! ## Bundle records (R95) -/

/-- The record of the bundle a pocket holds. The count leaves out the unlisted notes (log entry 18). -/
def Pocket.bundleRecord (status : BundleStatus) (p : Pocket) : BundleRecord where
  bundle := p.bundle
  cls := p.cls
  status := status
  short := p.short
  count := p.held - p.unlistedDelivered
  cardsHeld := p.cardsHeld
  unlisted := p.unlistedDelivered
  pairs := (p.contributions.filter (fun c => decide (0 < c.delivered))).map (fun c => (c.deposit, c.delivered))

/-- R95: the record is in its slot and the bundle is reset; `next` is the next bundle number. -/
def Pocket.issue (status : BundleStatus) (next : Nat) (p : Pocket) : Pocket :=
  { p with
    record := some (p.bundleRecord status)
    held := 0
    cardsHeld := 0
    unlistedDelivered := 0
    contributions := (p.contributions.filter (fun c => c.committed != 0)).map (fun c => { c with delivered := 0 })
    short := false
    bundle := if p.committed = 0 then none else some next }

/-- R95: PKM issues a bundle record for pocket `k`. Notes still committed to it take the next bundle number, which advances
(R79): so also at line clear, where a pocket may stand so and where R79 and R97 leave the next bundle number as it is (log
entry 12). -/
def State.issueRecord (k : PocketNo) (status : BundleStatus) (s : State) : State :=
  let next := if (s.pocket k).committed = 0 then s.pkm.nextBundle else next32 s.pkm.nextBundle
  State.putPocket k ((s.pocket k).issue status s.pkm.nextBundle) { s with pkm := { s.pkm with nextBundle := next } }

/-- R91 or R85, R94, R97: a pocket whose bundle has ended takes its new assignment, or reopens with its limit set. -/
def State.startBundle (k : PocketNo) (s : State) : State :=
  s.reenterPocket k
    (if (s.pocket k).changeover then (s.pocket k).takeAssignment s.tbs.active k else (s.pocket k).reopen)

/-! ## What PKM holds back until its slots are empty -/

/-- R81: the strap order of a COMPLETE pocket. -/
def Pocket.order (p : Pocket) : StrapOrder where
  bundle := p.bundle
  cls := p.cls
  count := p.held
  short := p.short

/-- R81: fill the strap-order slot of pocket `k` when its four conditions hold. -/
def State.fillOrder (k : PocketNo) (s : State) : State :=
  let p := s.pocket k
  if p.state = .complete ∧ p.strapOrder = none ∧ p.record = none ∧ s.tbs.params.strappingStation ≠ none then
    s.putPocket k { p with strapOrder := some p.order }
  else s

/-- R85: issue the REMOVED record of pocket `k` when its three conditions hold. -/
def State.issueRemoved (k : PocketNo) (s : State) : State :=
  let p := s.pocket k
  if p.state = .awaitingRemoval ∧ p.emptyEye = false ∧ p.record = none then
    (s.issueRecord k .removed).startBundle k
  else s

/-- R81, R85: what becomes possible in an event, taken pocket by pocket. -/
def State.heldBack (s : State) : State := allPockets.foldl (fun s k => (s.fillOrder k).issueRemoved k) s

/-! ## LOOSE_NEAR_FULL (R80) -/

/-- The free room of pocket 1 or 2. -/
def Pocket.freeRoom (p : Pocket) : Nat := if p.state = .awaitingRemoval then 0 else p.limit - p.committed - p.held

/-- The near-full condition of a pocket. -/
def Pocket.nearFull (p : Pocket) : Bool := decide (p.state ≠ .disabled ∧ p.freeRoom ≤ 12)

/-- R80: LOOSE_NEAR_FULL is held while pocket 1 or 2 is near full, and raised when it is set. -/
def State.nearFullTest (s : State) : State :=
  if (s.pocket pocket1).nearFull || (s.pocket pocket2).nearFull then
    if s.held .looseNearFull then s else State.raise .looseNearFull (s.hold .looseNearFull)
  else s.release .looseNearFull

/-! ## The end of a deposit (R89) and the changeover (R91) -/

/-- A deposit-pure pocket in OPEN or FULL whose list holds deposit `d` alone. -/
def Pocket.holdsOnly (d : Nat) (p : Pocket) : Bool :=
  p.isPure && decide (p.state = .open ∨ p.state = .full) && decide (p.contributions.map Contribution.deposit = [d])

/-- R89: the deposit-pure pockets of an ended deposit enter CLOSING. -/
def State.closePure (d : Nat) (s : State) : State :=
  allPockets.foldl
    (fun s k => if (s.pocket k).holdsOnly d then s.reenterPocket k ((s.pocket k).close s.tbs.active k) else s) s

/-- R91: what a swap does to one pocket record; `b` is the new active bank. -/
def Pocket.changeBank (b : Bank) (k : PocketNo) (p : Pocket) : Pocket :=
  if k = pocket1 ∨ k = pocket2 then
    let q := { p with assignment := b.assignmentFor k }
    if p.state = .disabled then
      let q := { q with limit := q.limitFor }
      if q.unaccounted then { q with state := .unaccounted } else q.enterOpen
    else q.setLimit
  else if p.assignment = b.assignmentFor k then { p with changeover := false }
  else
    let q := { p with changeover := true }
    match p.state with
    | .disabled => q.takeAssignment b k
    | .unaccounted => q.takeAssignment b k
    | .open => q.close b k
    | .full => q.close b k
    | .closing => q
    | .complete => q
    | .strapping => q
    | .awaitingRemoval => q
    | .inhibited => q
    | .fault => q

/-- R91: the changeover of all sixteen pockets. -/
def State.changeBanks (s : State) : State :=
  allPockets.foldl (fun s k => s.putPocket k ((s.pocket k).changeBank s.tbs.active k)) s

/-! ## Line clear (R97) -/

/-- R97 step 4: a pocket with committed 0 takes its state from its empty eye (log entry 17). -/
def State.settleCleared (k : PocketNo) (s : State) : State :=
  if (s.pocket k).emptyEye then s.putPocket k { s.pocket k with unaccounted := true, state := .unaccounted }
  else State.startBundle k (s.putPocket k { s.pocket k with unaccounted := false })

/-- R97 step 1: the CLEARED record of a pocket that holds notes. -/
def State.issueCleared (k : PocketNo) (s : State) : State :=
  let p := s.pocket k
  if 0 < p.held then
    State.issueRecord k .cleared (s.putPocket k { p with short := p.short || decide (p.held < p.limit) })
  else s

/-- R97: what line clear does to pocket `k`. -/
def State.clearPocket (k : PocketNo) (s : State) : State :=
  if (s.pocket k).state = .disabled then s
  else
    let s := s.issueCleared k
    let s := s.putPocket k { s.pocket k with strapTimer := none, strapOrder := none }
    if 0 < (s.pocket k).committed then s.faultPocket k else s.settleCleared k

/-- R97: every pocket in increasing number. -/
def State.clearPockets (s : State) : State := allPockets.foldl (fun s k => s.clearPocket k) s

end Sys2Proof.Machine
end

