-- ==== Sys2Proof/Machine/Tables.lean ====
section
/-! DEFINITION. The Table Store's shared operations (chapter 7): the swap and its triggers (R132, R133), the commit checks
(R130) and the geometry checks (R138, R139). -/

namespace Sys2Proof.Machine

/-! ## The swap -/

/-- R132 step 6, R143: the first swap takes the line from STANDBY to READY. -/
def State.leaveStandby (s : State) : State :=
  if s.lsv.line = .standby then { s with lsv := { s.lsv with line := .ready } } else s

/-- R132 steps 1 to 3: the banks exchange roles, the generation advances, the marker is cleared. -/
def TableStore.exchange (t : TableStore) : TableStore :=
  { t with active := t.shadow, shadow := t.active, generation := next16 t.generation, swapPending := false }

/-- R132: a swap. -/
def State.swap (s : State) : State :=
  State.leaveStandby (State.raise .bankSwapped (State.setBlocked 0 (State.changeBanks { s with tbs := s.tbs.exchange })))

/-- R133: a trigger of a pending swap. -/
def State.swapTrigger (s : State) : State := if s.tbs.swapPending then s.swap else s

/-- Entry to READY from RUN, DRAIN or HALT-STOPPED, which is a swap trigger (R133). -/
def State.enterReady (s : State) : State := State.swapTrigger { s with lsv := { s.lsv with line := .ready } }

/-! ## Commit checks (Table 7-4) -/

/-- Whether a pocket's geometry is defined. -/
def LineParameters.defined (p : LineParameters) (k : PocketNo) : Bool := p.geometry[k].isSome

/-- The pockets that some class of a bank lists. -/
def Bank.listedPockets (b : Bank) : List PocketNo := allClasses.flatMap (fun c => b.classes[c].pockets)

/-- Check 1: every class a rule names lists a pocket. -/
def Bank.check1 (b : Bank) : Bool :=
  b.rules.toList.all fun r =>
    match r.result with
    | .cls c => !(b.classes[c].pockets).isEmpty
    | .hold => true
    | .reject => true

/-- Check 2: no pocket is listed by two different classes. -/
def Bank.check2 (b : Bank) : Bool :=
  allPockets.all fun k => decide ((allClasses.filter (fun c => b.lists c k)).length ≤ 1)

/-- Check 3: pockets 1 and 2 and every listed pocket have their geometry defined. -/
def Bank.check3 (b : Bank) (p : LineParameters) : Bool :=
  p.defined pocket1 && p.defined pocket2 && b.listedPockets.all p.defined

/-- Check 4: strapped classes that list a pocket need a strapping station. -/
def Bank.check4 (b : Bank) (p : LineParameters) : Bool :=
  p.strappingStation.isSome ||
    b.classes.toList.all (fun c => c.pockets.isEmpty || decide (c.bundleSize = 0))

/-- Check 5 on one watch entry. -/
def WatchEntry.valid (w : WatchEntry) : Bool :=
  decide (w.length = 0) ||
    (decide (w.length.toNat ≤ 12) && (w.pattern.take w.length.toNat).all validChar
      && (decide (w.denomination.toNat ≤ 15) || decide (w.denomination = 255)) && decide (w.action.toNat ≤ 1))

/-- Check 5: every watch entry in use is valid. -/
def Bank.check5 (b : Bank) : Bool := b.watch.toList.all WatchEntry.valid

/-- R130: the first commit check that fails. -/
def Bank.failedCheck (b : Bank) (p : LineParameters) : Option Nat :=
  if !b.check1 then some 1 else if !b.check2 then some 2 else if !b.check3 p then some 3
  else if !b.check4 p then some 4 else if !b.check5 then some 5 else none

/-! ## Geometry checks (Table 7-7) -/

/-- The defined gates of a parameter set: the geometries of pockets 2 to 16. -/
def LineParameters.gates (p : LineParameters) : List Geometry := p.geometry.toList.tail.filterMap id

/-- Check 7: pocket 1 lies beyond every other pocket. -/
def LineParameters.check7 (p : LineParameters) : Bool :=
  match p.geometry[pocket1] with
  | some g1 => p.gates.all (fun g => decide (g.p < g1.p))
  | none => true

/-- R138: the first geometry check that fails. The sums are ordinary integer sums; `G − A` below 0 fails. -/
def LineParameters.failedGeometry (p : LineParameters) : Option Nat :=
  if ¬ p.dInsp + p.tolerance < p.dDec then some 1
  else if ¬ p.maxLength < p.dDec then some 2
  else if ¬ p.gates.all (fun g => decide (p.dDec + g.a < g.g)) then some 3
  else if ¬ p.gates.all (fun g => decide (2 * p.maxLength + p.minGap + g.a < g.g)) then some 4
  else if ¬ p.gates.all (fun g => decide (g.a + g.h ≤ p.minGap)) then some 5
  else if ¬ p.gates.all (fun g => decide (g.g < g.p)) then some 6
  else if ¬ p.check7 then some 7
  else none

/-- R139: check 8 passes when the set leaves no geometry undefined that a bank in use or pending needs. -/
def TableStore.check8 (t : TableStore) (p : LineParameters) : Bool :=
  (decide (t.generation = 0) || (p.defined pocket1 && p.defined pocket2 && t.active.listedPockets.all p.defined))
    && (!t.swapPending || (p.defined pocket1 && p.defined pocket2 && t.shadow.listedPockets.all p.defined))

/-- R138 and R139: the first check from 1 to 8 that fails. -/
def TableStore.failedParameters (t : TableStore) (p : LineParameters) : Option Nat :=
  match p.failedGeometry with
  | some n => some n
  | none => if t.check8 p then none else some 8

end Sys2Proof.Machine
end

