-- ==== Sys2Proof/Machine/Deposits.lean ====
section
/-! DEFINITION. The Deposit Unit's shared operations (chapter 6): the contexts and their boundaries, assignment, delivery
and in-doubt counts, completion, the declaration list, and the deposit record's outcome. -/

namespace Sys2Proof.Machine

/-! ## Contexts -/

/-- The ACTIVE context (R99: at most one). -/
def State.activeContext (s : State) : Option Context :=
  s.dpu.contexts.find? (fun c => decide (c.state = .active))

/-- Whether a context takes deliveries and in-doubt counts: ACTIVE or DRAINING (Table 6-2). -/
def Context.counting (c : Context) : Bool :=
  match c.state with
  | .active => true
  | .draining => true
  | .recordPending => false

/-- R112: the context of deposit `d` among those ACTIVE or DRAINING. -/
def State.countingContext (s : State) (d : Nat) : Option Context :=
  s.dpu.contexts.find? (fun c => c.counting && c.seq == d)

/-- Change the context of deposit `d` among those ACTIVE or DRAINING. -/
def State.updateContext (d : Nat) (f : Context → Context) (s : State) : State :=
  { s with dpu := { s.dpu with
      contexts := s.dpu.contexts.map (fun c => if c.counting = true ∧ c.seq = d then f c else c) } }

/-- R110: deposit completion of deposit `d`. -/
def State.completeDeposit (d : Nat) (s : State) : State :=
  let t := s.updateContext d (fun c => { c with state := .recordPending })
  State.closePure d { t with dpu := { t.dpu with completion := t.dpu.completion ++ [d] } }

/-- R110: deposit `d` completes when its context is DRAINING with nothing in transit. -/
def State.completionTest (d : Nat) (s : State) : State :=
  match s.countingContext d with
  | some c => if c.state = .draining ∧ c.inTransit = 0 then s.completeDeposit d else s
  | none => s

/-- R108: the ACTIVE context, if any, enters DRAINING, and completes there if nothing is in transit. -/
def State.endActive (kind : EndKind) (s : State) : State :=
  match s.activeContext with
  | some c =>
    State.completionTest c.seq
      (s.updateContext c.seq
        (fun c => { c with state := .draining, endKind := some kind, closeGen := some s.tbs.generation }))
  | none => s

/-- R105 step 3: a context as it opens. The opening generation is written after the boundary's swap (step 5). -/
def Context.opening (seq : Nat) (card : Option Nat) (declaration : Option Declaration) : Context where
  state := .active
  seq := seq
  card := card
  declaration := declaration
  openGen := 0
  closeGen := none
  endKind := none
  assigned := 0
  inTransit := 0
  credited := Vector.replicate 16 0
  totalCredited := 0
  countSaturated := false
  value := zeroValue
  valueSaturated := false
  held := 0
  rejects := Vector.replicate 13 0
  inDoubt := 0

/-- The declaration listed for a card number. -/
def State.declarationFor (s : State) (card : Option Nat) : Option Declaration :=
  match card with
  | some n => s.dpu.declarations.find? (fun d => d.card == n)
  | none => none

/-- R105 steps 3 and 4: a FREE context opens for a card, `none` for an unreadable one. -/
def State.openContext (card : Option Nat) (s : State) : State :=
  let found := s.declarationFor card
  let t := { s with dpu := { s.dpu with
      contexts := s.dpu.contexts ++ [Context.opening s.dpu.nextDeposit card found]
      nextDeposit := next16 s.dpu.nextDeposit
      declarations := s.dpu.declarations.filter (fun d => some d.card != card) } }
  let t := if t.dpu.contexts.length = 4 then State.raise .contextShortage (t.hold .contextShortage) else t
  if found.isNone then t.raise .declarationMissing else t

/-- R105, R106: a card that is not an end card. -/
def State.cardBoundary (card : Option Nat) (s : State) : State :=
  let t := s.endActive .card
  if t.dpu.contexts.length < 4 then t.openContext card else t.haltCause .noDepositContext

/-- R105 to R107: deposit boundary processing of a resolved separator card. -/
def State.boundary (card : CardField) (s : State) : State :=
  match card with
  | .number 0 => s.endActive .endCard
  | .number (n + 1) => s.cardBoundary (some (n + 1))
  | .unreadable => s.cardBoundary none
  | .absent => s.cardBoundary none

/-- R105 step 5: the opening generation of the context a card has just opened. -/
def State.writeOpeningGeneration (s : State) : State :=
  match s.activeContext with
  | some c => s.updateContext c.seq (fun c => { c with openGen := s.tbs.generation })
  | none => s

/-! ## Counting a deposit's notes -/

/-- R111: an entry is assigned to deposit `d`. -/
def State.assign (d : Nat) (s : State) : State :=
  s.updateContext d (fun c => { c with assigned := c.assigned + 1, inTransit := c.inTransit + 1 })

/-- R116, R117: the credit of one note of index `i` and face value `face`. -/
def Context.credit (i : DenomNo) (face : Nat) (c : Context) : Context :=
  { c with
    totalCredited := c.totalCredited + 1
    credited := if c.credited[i] < 65535 then c.credited.set i (c.credited[i] + 1) else c.credited
    countSaturated := c.countSaturated || decide (65535 ≤ c.credited[i])
    value := (creditValue c.value c.valueSaturated face).1
    valueSaturated := (creditValue c.value c.valueSaturated face).2 }

/-- R113: a delivery in a context, by the entry's destination. -/
def Context.deliver (e : Entry) (c : Context) : Context :=
  let c := { c with inTransit := c.inTransit - 1 }
  match e.destination with
  | some (.cls _) => c.credit (e.denomination.getD 0) (e.faceValue.getD 0)
  | some .hold => { c with held := c.held + 1 }
  | some (.reject r) =>
    match r.countIndex with
    | some i => { c with rejects := c.rejects.set i (c.rejects[i] + 1) }
    | none => c
  | none => c

/-- R63 step 3: DPU counts an arrival into the entry's deposit; an entry with none changes no context. -/
def State.countDelivery (e : Entry) (s : State) : State :=
  match e.deposit with
  | some d => State.completionTest d (s.updateContext d (Context.deliver e))
  | none => s

/-- R114: DPU counts an entry in doubt. -/
def State.countInDoubt (e : Entry) (s : State) : State :=
  match e.deposit with
  | some d =>
    State.completionTest d
      (s.updateContext d (fun c => { c with inTransit := c.inTransit - 1, inDoubt := c.inDoubt + 1 }))
  | none => if e.isCard then s else s.bump .orphanInDoubt

/-! ## Line clear (R122, R123) -/

/-- R122: a context at line clear; `gen` is the active generation. -/
def Context.abort (gen : Nat) (c : Context) : Context :=
  if c.counting then
    { c with
      state := .recordPending
      endKind := some .aborted
      closeGen := if c.state = .active then some gen else c.closeGen
      inDoubt := c.inDoubt + c.inTransit
      inTransit := 0 }
  else c

/-- R122, R123: line clear in the Deposit Unit. The contexts stand in opening order, so the aborted ones join the
completion order oldest first. -/
def State.abortDeposits (s : State) : State :=
  { s with dpu := { s.dpu with
      contexts := s.dpu.contexts.map (Context.abort s.tbs.generation)
      completion := s.dpu.completion ++ (s.dpu.contexts.filter Context.counting).map Context.seq
      declarations := [] } }

/-! ## The deposit record (R118 to R121) -/

/-- The declared value as copied, and 0 for an UNDECLARED deposit. -/
def Context.declaredValue (c : Context) : Digits :=
  match c.declaration with
  | some d => d.value
  | none => zeroValue

/-- R119: the outcome and the difference. -/
def Context.outcome (c : Context) : DepositResult × Digits :=
  if c.valueSaturated then (.saturated, zeroValue)
  else
    match c.declaration with
    | none => (.undeclared, zeroValue)
    | some d =>
      match compareDigits c.value d.value with
      | .eq => (.balanced, zeroValue)
      | .gt => (.over, subDigits 0 c.value d.value)
      | .lt => (.short, subDigits 0 d.value c.value)

/-- R120: COUNT_MISMATCH. -/
def Context.countMismatch (c : Context) : Bool :=
  match c.declaration with
  | some d => d.counts.any (fun q => q.2 != c.credited[q.1])
  | none => false

/-- Bit `k` of a set, when its condition holds. -/
def setBit (w k : Nat) (b : Bool) : BitVec w := if b then BitVec.twoPow w k else 0

/-- R120: the qualifier set, coded as Table 12-12 lays down. -/
def Context.qualifiers (c : Context) : BitVec 8 :=
  setBit 8 0 (decide (0 < c.held)) ||| setBit 8 1 (decide (0 < c.inDoubt))
    ||| setBit 8 2 (c.rejects.toList.any (fun n => decide (0 < n))) ||| setBit 8 3 c.countMismatch
    ||| setBit 8 4 c.countSaturated ||| setBit 8 5 (decide (c.endKind = some .forced))
    ||| setBit 8 6 (decide (c.endKind = some .aborted))

end Sys2Proof.Machine
end

