-- ==== Sys2Proof/Machine/Transit.lean ====
section
/-! DEFINITION. What ends an entry's transit and what its marks do on the way: gates (R56 to R58), deliveries (R63),
missing arrivals (R66), removal from the queue with the empty-queue report (R9, R10, R146), and the in-doubt conversion
(R152). -/

namespace Sys2Proof.Machine

/-! ## Gates (R56) -/

/-- The gate of a pocket. -/
def State.gate (s : State) (k : PocketNo) : Gate := s.gdr.gates[k]

/-- Store a gate. -/
def State.setGate (k : PocketNo) (g : Gate) (s : State) : State :=
  { s with gdr := { s.gdr with gates := s.gdr.gates.set k g } }

/-- One entry more in DEFLECTING: the gate is ON from the first. -/
def State.gateEnter (k : PocketNo) (s : State) : State :=
  s.setGate k { on := true, deflecting := (s.gate k).deflecting + 1 }

/-- One entry less in DEFLECTING: the gate goes OFF with the last. -/
def State.gateLeave (k : PocketNo) (s : State) : State :=
  s.setGate k { on := decide (1 < (s.gate k).deflecting), deflecting := (s.gate k).deflecting - 1 }

/-- What an entry's leaving does to its gate. -/
def State.leaveGateOf (e : Entry) (s : State) : State :=
  match e.pocket with
  | some k => if e.state = .deflecting then s.gateLeave k else s
  | none => s

/-- R60: every gate OFF and every count 0. -/
def State.gatesOff (s : State) : State :=
  { s with gdr := { gates := Vector.replicate 16 { on := false, deflecting := 0 } } }

/-! ## Leaving the queue -/

/-- R9: the report of an empty transit queue, to LSV (R146) and to TBS (R133). -/
def State.reportEmpty (s : State) : State :=
  let s := if s.lsv.line = .drain then s.enterReady else s
  if s.activeContext.isNone then s.swapTrigger else s

/-- R9, R10: an entry leaves the queue, with TRANSIT_FULL as the queue then stands. -/
def State.dropEntry (seq : Nat) (s : State) : State :=
  let t := { s with trk := { s.trk with queue := s.trk.queue.filter (fun e => e.seq != seq) } }
  t.holdWhile .transitFull (decide (10 ≤ t.trk.queue.length))

/-- R9: an entry leaves the queue, with the report when none is left. -/
def State.removeEntry (seq : Nat) (s : State) : State :=
  let t := s.dropEntry seq
  if t.trk.queue.isEmpty then t.reportEmpty else t

/-! ## Deliveries and missing arrivals -/

/-- R63: a matched arrival of entry `e` at pocket `k`. -/
def State.deliverEntry (k : PocketNo) (e : Entry) (s : State) : State :=
  let s := s.updateEntry e.seq (fun e => { e with arrivalSeen := true })
  let s := s.deliverTo k e.depositKey (decide (e.destination = some (.reject .card)))
  let s := s.countDelivery e
  let s := s.leaveGateOf e
  s.removeEntry e.seq

/-- R66 step 1: the withdrawal, with its state test, and then FAULT. Where closing completion would leave the pocket
DISABLED or UNACCOUNTED under a new assignment, the pocket enters FAULT under its old one and CLEAR gives it the new one
(log entry 14). -/
def State.missPocket (k : PocketNo) (d : Nat) (s : State) : State :=
  let t := s.withdraw k d
  if (t.pocket k).state = .disabled ∨ (t.pocket k).state = .unaccounted then
    State.faultPocket k (s.storePocket k ((s.pocket k).withdrawCounts k d))
  else t.faultPocket k

/-- R66: entry `e`, routed to pocket `k`, is missing. -/
def State.missEntry (k : PocketNo) (e : Entry) (s : State) : State :=
  let s := s.missPocket k e.depositKey
  let s := s.countInDoubt e
  let s := s.leaveGateOf e
  let s := s.removeEntry e.seq
  s.haltCause .missingArrival

/-! ## Expiries (R17): each acts while the position has reached its mark and the entry stands in the mark's condition -/

/-- R57: gate on. -/
def State.expireGateOn (seq : Nat) (s : State) : State :=
  match s.entry seq with
  | some e =>
    match e.gateOn, e.pocket with
    | some m, some k =>
      if e.state = .routed ∧ reached s.trk.position m = true then
        (s.updateEntry seq (fun e => { e with state := .deflecting })).gateEnter k
      else s
    | _, _ => s
  | none => s

/-- R58: gate off. -/
def State.expireGateOff (seq : Nat) (s : State) : State :=
  match s.entry seq with
  | some e =>
    match e.gateOff, e.pocket with
    | some m, some k =>
      if e.state = .deflecting ∧ reached s.trk.position m = true then
        (s.updateEntry seq (fun e => { e with state := .awaitingArrival })).gateLeave k
      else s
    | _, _ => s
  | none => s

/-- R66: window end, one position past the window. -/
def State.expireWindow (seq : Nat) (s : State) : State :=
  match s.entry seq with
  | some e =>
    match e.windowEnd, e.pocket with
    | some m, some k =>
      if e.arrivalSeen = false ∧ reached s.trk.position (m + 1) = true then s.missEntry k e else s
    | _, _ => s
  | none => s

/-- R17: the pocket marks already reached when they are computed expire in that event, in the order of Table 1-6. -/
def State.expireReached (seq : Nat) (s : State) : State :=
  ((s.expireGateOn seq).expireGateOff seq).expireWindow seq

/-! ## Arrivals (R62) -/

/-- A candidate of pocket `k` whose arrival window contains the position. -/
def Entry.matchesArrival (k : PocketNo) (pos : Position) (e : Entry) : Bool :=
  decide (e.pocket = some k) && decide (e.state = .deflecting ∨ e.state = .awaitingArrival) &&
    match e.windowStart, e.windowEnd with
    | some a, some b => spanContains a b pos
    | _, _ => false

/-- R62: the oldest candidate of pocket `k` that an arrival here matches. -/
def State.arrivalMatch (k : PocketNo) (s : State) : Option Entry :=
  s.trk.queue.find? (Entry.matchesArrival k s.trk.position)

/-! ## The stop (R151, R152) -/

/-- R152: one entry of the in-doubt conversion. -/
def State.convertEntry (s : State) (e : Entry) : State :=
  match e.resolution with
  | some _ =>
    let s :=
      match e.pocket with
      | some k => s.withdraw k e.depositKey
      | none => s
    (s.countInDoubt e).dropEntry e.seq
  | none => (s.bump .untrackedObjects).dropEntry e.seq

/-- R152: the in-doubt conversion, oldest entry first, then the gates, TRANSIT_FULL and the empty-queue report. -/
def State.convertInDoubt (s : State) : State :=
  let t := (s.trk.queue.foldl State.convertEntry s).gatesOff
  State.reportEmpty (t.release .transitFull)

/-- R151: the stop event. -/
def State.stopEvent (s : State) : State :=
  let t := { s with lsv := { s.lsv with stopScheduled := false } }
  if s.lsv.line = .haltStopping ∧ s.lsv.running = false then
    State.convertInDoubt { t with lsv := { t.lsv with line := .haltStopped } }
  else t

end Sys2Proof.Machine
end

