-- ==== Sys2Proof/Machine/Routing.lean ====
section
/-! DEFINITION. The Routing Engine (chapter 3): the routing precedence (Table 3-1), the watch list (R42, R43), the routing
rules (R48), commitment to a pocket (R49 to R51, R74) with the pocket marks (R16), and re-planning (R54). -/

namespace Sys2Proof.Machine

/-! ## Pocket marks (R16) -/

/-- R15, R16: an entry takes pocket `k`, with the marks of the geometry in force and the state that follows. Without a
defined geometry there are no marks (log entry 22). -/
def Entry.takePocket (g : Option Geometry) (k : PocketNo) (e : Entry) : Entry :=
  { e with
    pocket := some k
    gateOn := if k = pocket1 then none else g.map (fun g => behind (ahead e.lead g.g) g.a)
    gateOff := if k = pocket1 then none else g.map (fun g => ahead e.trail (g.g + g.h))
    windowStart := g.map (fun g => behind (ahead e.lead g.p) g.w)
    windowEnd := g.map (fun g => ahead e.lead (g.p + g.w))
    state := if k = pocket1 then .awaitingArrival else .routed }

/-- R15 to R17: TRK stores an entry's destination, face value copy and pocket, and the marks already reached expire. That
they expire at once, before the next entry of the same event is resolved (R33), is the model's choice (log entry 30). -/
def State.placeEntry (seq : Nat) (dest : Destination) (face : Option Nat) (k : PocketNo) (s : State) : State :=
  State.expireReached seq
    (s.updateEntry seq
      (fun e => Entry.takePocket s.tbs.params.geometry[k] k { e with destination := some dest, faceValue := face }))

/-! ## Room (R50, R51) and selection (R74) -/

/-- R51: whether pocket 1 has room for deposit `d`. -/
def Pocket.hasRoom (d : Nat) (p : Pocket) : Bool :=
  decide (p.state ≠ .awaitingRemoval) && decide (p.filled < p.limit) && hasPlace d p.contributions

/-- R50: whether pocket 2 is eligible for deposit `d`. -/
def Pocket.eligible (d : Nat) (p : Pocket) : Bool :=
  decide (p.state = .open) && decide (p.filled < p.limit) && hasPlace d p.contributions

/-- R74: whether a class's pocket is eligible for deposit `d`. -/
def Pocket.eligibleForClass (d : Nat) (p : Pocket) : Bool :=
  p.eligible d &&
    (!p.isPure || p.contributions.isEmpty || decide (p.contributions.map Contribution.deposit = [d]))

/-- R51: commitment to pocket 1, with its room test, its fault and its halt cause. -/
def State.commitReject (d : Nat) (s : State) : State :=
  let s := if (s.pocket pocket1).hasRoom d then s else (s.faultPocket pocket1).haltCause .looseOverflow
  s.commit pocket1 d

/-- R74: the first listed pocket of class `c` that is eligible for deposit `d`. -/
def State.select (c : ClassNo) (d : Nat) (s : State) : Option PocketNo :=
  (s.tbs.active.classes[c].pockets).find? (fun k => (s.pocket k).eligibleForClass d)

/-- R37: an entry's destination is turned into a commitment and a pocket, and stored. `face` is the face value copy a
class destination takes (R32). -/
def State.settleDestination (seq d : Nat) (face : Option Nat) (dest : Destination) (s : State) : State :=
  match dest with
  | .reject r => (s.commitReject d).placeEntry seq (.reject r) none pocket1
  | .hold =>
    if (s.pocket pocket2).eligible d then (s.commit pocket2 d).placeEntry seq .hold none pocket2
    else ((s.haltCause .looseOverflow).commitReject d).placeEntry seq (.reject .holdUnavailable) none pocket1
  | .cls c =>
    match s.select c d with
    | some k => (s.commit k d).placeEntry seq (.cls c) face k
    | none => ((s.blockClass c).commitReject d).placeEntry seq (.reject .classFull) none pocket1

/-! ## The watch list -/

/-- The watch indices in order. -/
def allWatch : List (Fin 32) :=
  [0, 1, 2, 3, 4, 5, 6, 7, 8, 9, 10, 11, 12, 13, 14, 15, 16, 17, 18, 19, 20, 21, 22, 23, 24, 25, 26, 27, 28, 29, 30, 31]

/-- R42: a serial against a pattern, position by position; position `i + 1` is a wildcard when bit `i` is set. -/
def patternMatches (wild : BitVec 16) : (i : Nat) → (pattern serial : List Byte) → Bool
  | i, p :: ps, c :: cs => (setHas wild i || p == c) && patternMatches wild (i + 1) ps cs
  | _, [], [] => true
  | _, _, _ => false

/-- R42: whether a watch entry matches a note. -/
def WatchEntry.isMatch (n : NoteContents) (w : WatchEntry) : Bool :=
  decide (w.length ≠ 0) && decide (n.serial.length = w.length.toNat)
    && patternMatches w.wildcards 0 (w.pattern.take w.length.toNat) n.serial
    && (decide (w.denomination = 255) || decide (n.denomination.map Fin.val = some w.denomination.toNat))

/-- The indices of the watch entries that match a note. -/
def Bank.watchMatches (b : Bank) (n : NoteContents) : List (Fin 32) := allWatch.filter (fun i => b.watch[i].isMatch n)

/-- R43 step 1: one hit count, which stands at 255 once it reaches it. -/
def bumpHit (v : Vector Nat 32) (i : Fin 32) : Vector Nat 32 := v.set i (min (v[i] + 1) 255)

/-- R43 steps 1 to 4: the hits of a note, its matching indices given in order with the lowest first. -/
def State.recordHits (e : Entry) (n : NoteContents) (hits : List (Fin 32)) (s : State) : State :=
  match hits with
  | [] => s
  | i :: _ =>
    let rte : RoutingEngine :=
      { hits := hits.foldl bumpHit s.rte.hits
        lastHit := some { index := i, serial := n.serial, deposit := e.depositKey, seq := e.seq } }
    State.raise .watchHit (State.bump .watchHits { s with rte := rte })

/-! ## The precedence -/

/-- Steps 1 to 7 of Table 3-1 for a note frame. -/
def frameSteps (e : Entry) (n : NoteContents) : Option Destination :=
  if n.kind = .separator then some (.reject .card)
  else if e.tied then some (.reject .tied)
  else if e.long then some (.reject .long)
  else if n.kind = .double then some (.reject .double)
  else if n.kind = .foreign then some (.reject .foreign)
  else if n.fault then some (.reject .inspectionFault)
  else if n.verdict = .suspect then some .hold
  else none

/-- R48: whether a rule matches a note of a known denomination. -/
def Rule.isMatch (i : DenomNo) (n : NoteContents) (r : Rule) : Bool :=
  setHas r.denominations i.val && setHas r.series n.series.val && setHas r.fitness n.fitness.code
    && setHas r.orientations n.orientation.code

/-- R48, R49: step 13 for a note of a known denomination. -/
def Bank.ruleStep (b : Bank) (i : DenomNo) (n : NoteContents) : Destination :=
  match b.rules.toList.find? (Rule.isMatch i n) with
  | some r =>
    match r.result with
    | .cls c => .cls c
    | .hold => .hold
    | .reject => .reject .ruleReject
  | none => .reject .noRule

/-- Steps 9 to 13 of Table 3-1. -/
def State.lineSteps (s : State) (e : Entry) (n : NoteContents) : Destination :=
  if s.lsv.line.isHalt then .reject .halted
  else if e.deposit.isNone then .reject .orphan
  else if n.verdict = .unverified then .reject .unverified
  else
    match n.denomination with
    | none => .reject .unknownDenomination
    | some i => if s.tbs.active.denominations[i].enabled then s.tbs.active.ruleStep i n
                else .reject .unknownDenomination

/-- The face value the active bank gives a note (R32). -/
def State.faceOf (s : State) (n : NoteContents) : Option Nat :=
  n.denomination.map (fun i => s.tbs.active.denominations[i].face)

/-- Steps 8 to 13 for a note that passed step 7: the watch list, then the steps after it. -/
def State.routeNote (seq : Nat) (e : Entry) (n : NoteContents) (s : State) : State :=
  let hits := s.tbs.active.watchMatches n
  let s := s.recordHits e n hits
  if hits.any (fun i => decide (s.tbs.active.watch[i].action = 0)) then
    s.settleDestination seq e.depositKey (s.faceOf n) .hold
  else s.settleDestination seq e.depositKey (s.faceOf n) (s.lineSteps e n)

/-- R37: RTE routes an entry that has just been resolved. -/
def State.route (seq : Nat) (s : State) : State :=
  match s.entry seq with
  | some e =>
    let s := if e.deposit.isNone && !e.isCard then s.bump .orphans else s
    match e.resolution with
    | some (.frame n) =>
      match frameSteps e n with
      | some dest => s.settleDestination seq e.depositKey none dest
      | none => s.routeNote seq e n
    | some .unidentified =>
      let r := if e.tied then RejectReason.tied else if e.long then RejectReason.long else RejectReason.unidentified
      s.settleDestination seq e.depositKey none (.reject r)
    | none => s
  | none => s

/-! ## Re-planning (R54) -/

/-- R54: a ROUTED entry newly tied goes from pocket `k` to pocket 1. -/
def State.replan (seq : Nat) (s : State) : State :=
  match s.entry seq with
  | some e =>
    match e.pocket with
    | some k =>
      let s := s.withdraw k e.depositKey
      let s := s.commitReject e.depositKey
      s.placeEntry seq (.reject .tied) none pocket1
    | none => s
  | none => s

end Sys2Proof.Machine
end

