-- ==== Sys2Proof/Machine/Identify.lean ====
section
/-! DEFINITION. The Identification Unit (chapter 2): resolution (R30, R31, R33), the decision point (R29), and the take of
a note frame (R23 to R28); with them the creation of a transit entry (R7, R13, R14). -/

namespace Sys2Proof.Machine

/-- R30: the resolution and denomination index, written into an entry. -/
def Entry.identify (r : Resolution) (e : Entry) : Entry :=
  { e with
    resolution := some r
    denomination :=
      match r with
      | .frame n => n.denomination
      | .unidentified => none }

/-- R30: the deposit and bank generation of an entry that is not a separator card, reported to DPU. -/
def State.assignEntry (seq : Nat) (s : State) : State :=
  let d := s.activeContext.map Context.seq
  let s := s.updateEntry seq (fun e => { e with deposit := d, generation := some s.tbs.generation })
  match d with
  | some d => s.assign d
  | none => s

/-- R31: the deposit boundary and the swap of a separator card, and the card entry's own fields. -/
def State.resolveCard (seq : Nat) (card : CardField) (s : State) : State :=
  let s := ((s.boundary card).swapTrigger).writeOpeningGeneration
  s.updateEntry seq (fun e => { e with deposit := none, generation := some s.tbs.generation })

/-- R30, R31: resolve the SEEN entry with a sequence, route it and commit it. -/
def State.resolve (seq : Nat) (r : Resolution) (s : State) : State :=
  let s := s.updateEntry seq (Entry.identify r)
  let s :=
    match r with
    | .frame n => if n.kind = ObjectKind.separator then s.resolveCard seq n.card else s.assignEntry seq
    | .unidentified => s.assignEntry seq
  s.route seq

/-- Whether the entry with a sequence stands SEEN. -/
def State.isSeen (s : State) (seq : Nat) : Bool := s.trk.queue.any (fun e => e.seq == seq && decide (e.state = .seen))

/-- R33: SEEN entries resolved UNIDENTIFIED one after another; one that has left the queue is not resolved. The marks that
one finds already reached expire before the next is resolved (log entry 30). -/
def State.resolveUnidentified (seqs : List Nat) (s : State) : State :=
  seqs.foldl (fun s q => if s.isSeen q then s.resolve q .unidentified else s) s

/-- The SEEN entries older than the one with a sequence, oldest first. -/
def State.olderSeen (s : State) (seq : Nat) : List Nat :=
  ((s.trk.queue.takeWhile (fun e => e.seq != seq)).filter (fun e => decide (e.state = .seen))).map Entry.seq

/-- R29: the decision-point expiry of an entry, with R17's condition that it stands SEEN and has reached its mark. -/
def State.expireDecision (seq : Nat) (s : State) : State :=
  match s.entry seq with
  | some e =>
    if e.state = .seen ∧ reached s.trk.position e.decision = true then
      (s.resolveUnidentified (s.olderSeen seq)).resolveUnidentified [seq]
    else s
  | none => s

/-! ## The take (R23) -/

/-- Whether an entry's inspection prediction lies within the tolerance of an edge position (R25). -/
def Entry.within (tolerance : Nat) (edge : Position) (e : Entry) : Bool :=
  decide (separation edge e.prediction ≤ tolerance)

/-- R25: the oldest SEEN entry a frame describes. -/
def State.frameMatch (edge : Position) (s : State) : Option Entry :=
  s.trk.queue.find? (fun e => decide (e.state = .seen) && e.within s.tbs.params.tolerance edge)

/-- R27: whether a frame describes an entry already resolved UNIDENTIFIED. -/
def State.isLate (edge : Position) (s : State) : Bool :=
  s.trk.queue.any (fun e => e.isUnidentified && e.within s.tbs.params.tolerance edge)

/-- R25 to R28: what a taken frame does. -/
def State.takeFrame (r : RawNote) (s : State) : State :=
  match s.frameMatch r.edge with
  | some e =>
    let s := s.resolveUnidentified (s.olderSeen e.seq)
    if s.isSeen e.seq then s.resolve e.seq (.frame (interpretNote r)) else s
  | none => if s.isLate r.edge then s.bump .lateFrames else s.bump .phantomFrames

/-! ## Creation of an entry -/

/-- R7, R12, Table 1-4: the entry of an object that clears the entry eye, TIED or not. -/
def State.newEntry (s : State) (lead : Position) (tied : Bool) : Entry where
  seq := s.trk.nextSeq
  lead := lead
  trail := s.trk.position
  length := diff s.trk.position lead
  long := decide (s.tbs.params.maxLength < diff s.trk.position lead)
  tied := tied
  state := .seen
  resolution := none
  deposit := none
  generation := none
  faceValue := none
  denomination := none
  destination := none
  pocket := none
  prediction := ahead lead s.tbs.params.dInsp
  decision := ahead lead s.tbs.params.dDec
  gateOn := none
  gateOff := none
  windowStart := none
  windowEnd := none
  arrivalSeen := false

/-- R13: the newest entry, when the new object's leading position lies within the minimum gap behind its trailing one. -/
def State.tiedPredecessor (s : State) (lead : Position) : Option Entry :=
  match s.trk.queue.getLast? with
  | some e => if diff lead e.trail < s.tbs.params.minGap then some e else none
  | none => none

/-- R158: each creation arms the feed-idle watch, while the feed idle distance is not 0. -/
def State.armIdle (s : State) : State :=
  if s.tbs.params.feedIdle = 0 then s
  else { s with lsv := { s.lsv with
      idleMark := some (ahead s.trk.position s.tbs.params.feedIdle), idleReached := false, idleRaised := false } }

/-- R14: TIED is set on a predecessor; one newly tied while ROUTED is re-planned. -/
def State.tiePredecessor (e : Entry) (s : State) : State :=
  let s := s.updateEntry e.seq (fun e => { e with tied := true })
  if e.state = .routed ∧ e.tied = false then s.replan e.seq else s

/-- R7: a transit entry is created, with R8, R10, R12, R13 and R14, and its decision point if already reached,
after what a re-planned predecessor's reached marks set off (log entries 21 and 30). -/
def State.createEntry (lead : Position) (s : State) : State :=
  let pred := s.tiedPredecessor lead
  let e := s.newEntry lead pred.isSome
  let t := { s with trk := { s.trk with queue := s.trk.queue ++ [e], nextSeq := next16 s.trk.nextSeq } }
  let t := (t.holdWhile .transitFull (decide (10 ≤ t.trk.queue.length))).armIdle
  let t :=
    match pred with
    | some q => t.tiePredecessor q
    | none => t
  t.expireDecision e.seq

/-- R6 and R11: how the object of a BLOCKED eye is settled (Table 1-3, from its second line). -/
def State.settleObject (lead : Position) (s : State) : State :=
  if diff s.trk.position lead < s.tbs.params.minLength then s.bump .debris
  else if s.lsv.line = .standby ∨ s.lsv.line = .haltStopped then s.bump .untrackedObjects
  else if 12 ≤ s.trk.queue.length then (s.bump .untrackedObjects).haltCause .transitOverflow
  else s.createEntry lead

end Sys2Proof.Machine
end

