-- ==== Sys2Proof/Machine/Link.lean ====
section
/-! DEFINITION. The Line Link (chapter 9): the transmit slot and the arbiter with its placements (R168, R169), what comes
about at the end of an event (R80, R81, R85, R158, R169, R170), and the inbound side (R161, R164 to R167, R20, R21,
R83). -/

namespace Sys2Proof.Machine

/-! ## Placements (Table 9-6) -/

/-- The SRC of every frame the part emits (R163). -/
def State.ownStation (s : State) : Byte := BitVec.ofNat 8 (s.lnk.station.getD 255)

/-- A frame of the part's own takes the transmit slot. -/
def State.emit (source : Source) (dest kind corr : Byte) (payload : List Byte) (s : State) : State :=
  { s with lnk := { s.lnk with
      slot := some { source := source, bytes := frameBytes dest s.ownStation kind corr payload } } }

/-- Rank 1: the oldest reply. -/
def State.placeReply (r : Reply) (s : State) : State :=
  State.emit .reply r.dest 0x40 r.corr r.payload { s with cmp := { s.cmp with replies := s.cmp.replies.tail } }

/-- The payload of a DEPOSIT_RECORD (Table 12-11). -/
def Context.record (c : Context) : List Byte :=
  let reference := match c.declaration with
    | some d => d.reference
    | none => []
  number16 c.seq ++ cardNumber c.card ++ flag c.declaration.isSome ++ number16 c.openGen
    ++ number16Or 0 c.closeGen ++ codeOr (c.endKind.map EndKind.code) ++ count8 c.outcome.1.code ++ [c.qualifiers]
    ++ valueField c.outcome.2 ++ valueField c.value ++ valueField c.declaredValue
    ++ number32 c.assigned ++ number32 c.totalCredited ++ number32 c.held ++ number32 c.inDoubt
    ++ c.credited.toList.flatMap number16 ++ c.rejects.toList.flatMap number32
    ++ count8 reference.length ++ reference

/-- The context whose record is next: the oldest in the completion order (R118). -/
def State.nextRecord (s : State) : Option Context :=
  match s.dpu.completion with
  | d :: _ => s.dpu.contexts.find? (fun c => decide (c.state = .recordPending) && c.seq == d)
  | [] => none

/-- Rank 2, R118: a deposit record is placed and its context returns to FREE. -/
def State.placeDeposit (c : Context) (s : State) : State :=
  let t := State.emit .depositRecord 0 0x44 0 c.record s
  State.release .contextShortage
    { t with dpu := { t.dpu with
        completion := t.dpu.completion.tail
        contexts := t.dpu.contexts.filter (fun x => !(decide (x.state = .recordPending) && x.seq == c.seq)) } }

/-- The payload of a STRAP_ORDER (Table 12-9). -/
def StrapOrder.payload (k : PocketNo) (o : StrapOrder) : List Byte :=
  count8 (pocketNumber k) ++ bundleNumber o.bundle ++ codeOr (o.cls.map Fin.val) ++ number16 o.count ++ flag o.short

/-- Rank 3, R82: a strap order is placed, its pocket enters STRAPPING and its timer starts. -/
def State.placeOrder (k : PocketNo) (o : StrapOrder) (s : State) : State :=
  let station := BitVec.ofNat 8 (s.tbs.params.strappingStation.getD 255)
  State.putPocket k
    { s.pocket k with state := .strapping, strapOrder := none, strapTimer := some s.tbs.params.strapTimeout }
    (State.emit .strapOrder station 0x42 0 (o.payload k) s)

/-- The payload of a BUNDLE_RECORD (Table 12-10). -/
def BundleRecord.payload (k : PocketNo) (r : BundleRecord) : List Byte :=
  bundleNumber r.bundle ++ count8 (pocketNumber k) ++ codeOr (r.cls.map Fin.val) ++ count8 r.status.code
    ++ flag r.short ++ number16 r.count ++ number16 r.cardsHeld ++ number16 r.unlisted
    ++ count8 r.pairs.length ++ r.pairs.flatMap (fun q => number16 q.1 ++ number16 q.2)

/-- Rank 4: a bundle record is placed and its slot emptied (R95). -/
def State.placeRecord (k : PocketNo) (r : BundleRecord) (s : State) : State :=
  State.putPocket k { s.pocket k with record := none } (State.emit .bundleRecord 0 0x43 0 (r.payload k) s)

/-- The payload of an EVENT frame (Table 12-9, R188). -/
def State.eventPayload (s : State) : List Byte :=
  bytes16 s.evu.reported ++ codeOr (highestEvent s.evu.reported) ++ bytes16 s.evu.pending
    ++ count8 s.lsv.line.code ++ codeOr (s.lsv.reason.map HaltCause.code) ++ [s.lsv.further] ++ [s.lsv.holds]

/-- Rank 5, R188: the EVENT frame is placed; the frame number advances and is its CORR. -/
def State.placeEvent (s : State) : State :=
  State.emit .event 0 0x41 (s.evu.frameNumber + 1) s.eventPayload
    { s with evu := { s.evu with owed := false, frameNumber := s.evu.frameNumber + 1 } }

/-- Rank 6: the oldest forwarded frame, byte for byte as it arrived (R167). -/
def State.placeForward (bytes : List Byte) (s : State) : State :=
  { s with lnk := { s.lnk with
      forward := s.lnk.forward.tail, slot := some { source := .forward, bytes := bytes } } }

/-- The lowest pocket with a strap order waiting. -/
def State.firstOrder (s : State) : Option (PocketNo × StrapOrder) :=
  allPockets.findSome? (fun k => (s.pocket k).strapOrder.map (fun o => (k, o)))

/-- The lowest pocket with a bundle record waiting. -/
def State.firstRecord (s : State) : Option (PocketNo × BundleRecord) :=
  allPockets.findSome? (fun k => (s.pocket k).record.map (fun r => (k, r)))

/-- R169: the arbiter's choice, the first source of Table 9-6 that has a frame waiting. -/
def State.choose (s : State) : State :=
  match s.cmp.replies.head? with
  | some r => s.placeReply r
  | none =>
    match s.nextRecord with
    | some c => s.placeDeposit c
    | none =>
      match s.firstOrder with
      | some (k, o) => s.placeOrder k o
      | none =>
        match s.firstRecord with
        | some (k, r) => s.placeRecord k r
        | none =>
          if s.evu.owed then s.placeEvent
          else
            match s.lnk.forward.head? with
            | some bytes => s.placeForward bytes
            | none => s

/-- R169: the arbiter fills an empty transmit slot. -/
def State.arbitrate (s : State) : State := if s.lnk.slot.isSome then s else s.choose

/-! ## The end of an event -/

/-- The ACTIVE deposit has assignments (R158). -/
def State.activeAssigned (s : State) : Bool :=
  match s.activeContext with
  | some c => decide (1 ≤ c.assigned)
  | none => false

/-- R158: whether FEED_IDLE falls due. -/
def State.idleDue (s : State) : Bool :=
  s.lsv.idleReached && !s.lsv.idleRaised && decide (s.lsv.line = .run) && s.lsv.running && s.activeAssigned

/-- R158: FEED_IDLE is raised in the first event after which its conditions hold. -/
def State.feedIdleTest (s : State) : State :=
  if s.idleDue then State.raise .feedIdle { s with lsv := { s.lsv with idleRaised := true } } else s

/-- The record slots of R170 that are occupied, by their source. -/
def State.recordsWaiting (s : State) : List Source :=
  (if s.dpu.contexts.any (fun c => decide (c.state = .recordPending)) then [Source.depositRecord] else [])
    ++ (if s.firstOrder.isSome then [Source.strapOrder] else [])
    ++ (if s.firstRecord.isSome then [Source.bundleRecord] else [])

/-- Whether some record slot waits behind a frame of lower rank. -/
def State.recordHeldUp (s : State) : Bool :=
  match s.lnk.slot with
  | some f => s.recordsWaiting.any (fun r => decide (r.rank < f.source.rank))
  | none => false

/-- R170: RECORD_BACKLOG after an event. -/
def State.backlogTest (s : State) : State :=
  if s.recordsWaiting.isEmpty then s.release .recordBacklog
  else if s.recordHeldUp then s.hold .recordBacklog
  else s

/-- The end of an event (log entry 19): what PKM held back, the near-full and feed-idle tests, the arbiter's placement,
what the placement lets PKM do, and RECORD_BACKLOG. -/
def State.settle (s : State) : State :=
  (((s.heldBack.nearFullTest.feedIdleTest.arbitrate).heldBack).nearFullTest).backlogTest

/-! ## The inbound side -/

/-- R161, Table 9-5: a rejected or discarded frame. -/
def State.linkError (s : State) : State := State.raise .linkError (s.bump .linkCheckErrors)

/-- R165: a frame offered to the command queue. -/
def State.offerCommand (q : QueuedCommand) (s : State) : State :=
  if s.cmp.commands.length < 4 then { s with cmp := { s.cmp with commands := s.cmp.commands ++ [q] } }
  else State.raise .commandDrop (s.bump .commandDrops)

/-- R167: a frame offered to the forward queue, whole. -/
def State.offerForward (bytes : List Byte) (s : State) : State :=
  if s.lnk.forward.length < 8 then { s with lnk := { s.lnk with forward := s.lnk.forward ++ [bytes] } }
  else State.raise .forwardDrop (s.bump .forwardDrops)

/-- R21: admission of a note frame. -/
def State.admitNote (r : RawNote) (s : State) : State :=
  if s.idu.overrun then s.bump .intakeFramesLost
  else if s.idu.fifo.length < 8 then { s with idu := { s.idu with fifo := s.idu.fifo ++ [r] } }
  else
    State.raise .intakeOverrun
      (State.hold .intakeOverrun
        (State.bump .intakeFramesLost { s with idu := { s.idu with overrun := true } }))

/-- R20: LNK hands a NOTE frame to IDU. -/
def State.handNote (src : Byte) (payload : List Byte) (s : State) : State :=
  if s.tbs.params.inspectionStation ≠ some src.toNat then s.bump .foreignNoteFrames
  else if noteLengthOk payload then s.admitNote (rawNoteOf payload)
  else s.bump .phantomFrames

/-- R83: the pocket a strap report matches. -/
def State.strapMatch (src : Byte) (payload : List Byte) (s : State) : Option PocketNo :=
  match pocketOfNumber (count8At payload 0) with
  | some k =>
    if s.tbs.params.strappingStation = some src.toNat ∧ (s.pocket k).state = .strapping
        ∧ (s.pocket k).bundle = some (number32At payload 1) then some k else none
  | none => none

/-- R83: a matching report with result OK. -/
def State.strapOk (k : PocketNo) (s : State) : State :=
  let s := s.issueRecord k .strapped
  let s := s.putPocket k { s.pocket k with strapTimer := none }
  if (s.pocket k).emptyEye then s.faultPocket k else s.startBundle k

/-- R83: a matching report with result FAILED or an unassigned code. -/
def State.strapFailed (k : PocketNo) (s : State) : State :=
  State.faultPocket k (State.raise .strapFailed (s.issueRecord k .strapFailed))

/-- R83: LNK hands a STRAP_DONE report to PKM. -/
def State.handStrap (src : Byte) (payload : List Byte) (s : State) : State :=
  match s.strapMatch src payload with
  | some k => if byteAt payload 5 = 0 then s.strapOk k else s.strapFailed k
  | none => State.raise .strapLate (s.bump .lateStrapReports)

/-- The KIND codes the part itself emits (Table 12-2). -/
def emittedKind (kind : Byte) : Bool := decide (0x40 ≤ kind.toNat ∧ kind.toNat ≤ 0x44)

/-- R164, Table 9-5: a frame addressed to the part. -/
def State.sortOwn (src kind corr : Byte) (payload : List Byte) (s : State) : State :=
  if src = broadcastStation ∨ s.lnk.station = some src.toNat then s.linkError
  else if kind = 0x01 then s.handNote src payload
  else if kind = 0x02 then
    if payload.length = 6 then s.handStrap src payload else s.linkError
  else if emittedKind kind then s.linkError
  else s.offerCommand { src := src, kind := kind, corr := corr, payload := payload, broadcast := false }

/-- R166: the broadcast frames that are also offered to the command queue (log entry 20). -/
def broadcastCommand (kind : Byte) (payload : List Byte) : Bool :=
  match payload with
  | a :: _ =>
    (decide (kind = kindFeedHold) && (decide (a = 0) || decide (a = 1)))
      || (decide (kind = kindLineControl) && (decide (a = 1) || decide (a = 2)))
  | [] => false

/-- R166: a frame with DEST 255. -/
def State.sortBroadcast (whole : List Byte) (src kind corr : Byte) (payload : List Byte) (s : State) : State :=
  let s := s.offerForward whole
  if broadcastCommand kind payload then
    s.offerCommand { src := src, kind := kind, corr := corr, payload := payload, broadcast := true }
  else s

/-- R164: a frame arrival. `got` runs from LENGTH through the last CHECK byte. -/
def State.sortFrame (got : List Byte) (s : State) : State :=
  let payload := (got.drop 5).take (count8At got 0 - 5)
  let dest := byteAt got 1
  if dest = broadcastStation then
    s.sortBroadcast (syncByte :: got) (byteAt got 2) (byteAt got 3) (byteAt got 4) payload
  else if s.lnk.station = some dest.toNat then s.sortOwn (byteAt got 2) (byteAt got 3) (byteAt got 4) payload
  else s.offerForward (syncByte :: got)

/-- R161: whether the CHECK bytes equal the check of the bytes from DEST on. -/
def checkEqual (got : List Byte) : Bool :=
  let n := count8At got 0
  decide (got.drop n = bytes16 (crc ((got.drop 1).take (n - 1))))

/-- The receiver's state. -/
def State.setReceiver (r : Receiver) (s : State) : State := { s with lnk := { s.lnk with receiver := r } }

/-- R161: one byte of the inbound stream. -/
def State.receiveByte (s : State) (b : Byte) : State :=
  match s.lnk.receiver with
  | .hunting => if b = syncByte then s.setReceiver (.collecting []) else s
  | .collecting got =>
    let got := got ++ [b]
    let n := count8At got 0
    if n < 5 ∨ 249 < n then ((s.setReceiver .hunting).linkError).settle
    else if got.length < n + 2 then s.setReceiver (.collecting got)
    else if checkEqual got then ((s.setReceiver .hunting).sortFrame got).settle
    else ((s.setReceiver .hunting).linkError).settle

end Sys2Proof.Machine
end

