-- ==== Sys2Proof/Machine/Pages.lean ====
section
/-! DEFINITION. The six status pages (R178 to R182), byte by byte as R194 and Table 12-12 lay them out. Each page opens
with its page code. -/

namespace Sys2Proof.Machine

/-! ## LINE (Table 10-4) -/

/-- The five distances of a pocket's geometry record; those that do not apply are absent (log entry 11). -/
def geometryDistances (k : PocketNo) (g : Option Geometry) : List Byte :=
  let gated := fun f : Geometry → Nat => if k = pocket1 then none else g.map f
  number16Or (16 + 5 * k.val) (gated Geometry.g) ++ number16Or (17 + 5 * k.val) (gated Geometry.a)
    ++ number16Or (18 + 5 * k.val) (gated Geometry.h) ++ number16Or (19 + 5 * k.val) (g.map Geometry.p)
    ++ number16Or (20 + 5 * k.val) (g.map Geometry.w)

/-- The geometry record of a pocket (Table 12-7). -/
def geometryRecord (k : PocketNo) (g : Option Geometry) : List Byte := flag g.isSome ++ geometryDistances k g

/-- The line parameters in the layout of Table 12-7. A station address is a Code, 0xFF for none (R194). -/
def LineParameters.bytes (p : LineParameters) : List Byte :=
  count8 p.prescaler ++ number16 p.dInsp ++ count8 p.tolerance ++ number16 p.dDec ++ number16 p.minGap
    ++ count8 p.minLength ++ count8 p.maxLength ++ number16 p.strapTimeout ++ number16 p.feedIdle
    ++ codeOr p.inspectionStation ++ codeOr p.strappingStation ++ number32 p.bundleBase
    ++ allPockets.flatMap (fun k => geometryRecord k p.geometry[k])

/-- The blocked-class set, a Set of 3 bytes. -/
def bytes24 (w : BitVec 24) : List Byte := [w.extractLsb' 16 8, w.extractLsb' 8 8, w.extractLsb' 0 8]

/-- The line group of the LINE page (R160). -/
def State.lineGroup (s : State) : List Byte :=
  count8 s.lsv.line.code ++ codeOr (s.lsv.reason.map HaltCause.code) ++ [s.lsv.further] ++ [s.lsv.holds]
    ++ flag s.lsv.stopRequest ++ flag s.lsv.running ++ number16 s.tbs.params.feedIdle ++ flag s.lsv.idleMark.isSome

/-- The link group of the LINE page (R171). -/
def State.linkGroup (s : State) : List Byte :=
  codeOr s.lnk.station ++ count8 s.lnk.forward.length ++ count8 s.cmp.commands.length
    ++ count8 s.cmp.replies.length ++ flag s.lnk.slot.isSome

/-- The LINE page (R178). -/
def State.linePage (s : State) : List Byte :=
  count8 0 ++ s.lineGroup ++ number16 s.tbs.generation ++ flag s.tbs.swapPending ++ s.tbs.params.bytes
    ++ bytes24 s.pkm.blocked ++ count8 s.idu.fifo.length ++ flag s.idu.overrun ++ s.linkGroup
    ++ bytes16 s.evu.pending ++ bytes16 s.evu.enable ++ flag s.evu.owed ++ flag s.evu.attn

/-! ## POCKET (R179) -/

/-- An assignment as R194 sends it: class, strapped flag, bundle size, capacity, allowance, deposit-pure flag. -/
def assignmentBytes (a : Option Assignment) : List Byte :=
  match a with
  | none => codeOr none ++ flag false ++ count8 0 ++ number16 0 ++ count8 0 ++ flag false
  | some a =>
    match a.kind with
    | .strapped size =>
      codeOr (a.cls.map Fin.val) ++ flag true ++ count8 size ++ number16 0 ++ count8 0 ++ flag a.pure
    | .loose capacity allowance =>
      codeOr (a.cls.map Fin.val) ++ flag false ++ count8 0 ++ number16 capacity ++ count8 allowance ++ flag a.pure

/-- A contribution as a triple. -/
def Contribution.bytes (c : Contribution) : List Byte := number16 c.deposit ++ count8 c.committed ++ number16 c.delivered

/-- The record fields of the POCKET page. -/
def Pocket.bytes (p : Pocket) : List Byte :=
  count8 p.state.code ++ assignmentBytes p.assignment ++ number16 p.limit ++ count8 p.committed ++ number16 p.held
    ++ number16 p.cardsHeld ++ bundleNumber p.bundle ++ count8 p.contributions.length
    ++ p.contributions.flatMap Contribution.bytes ++ count8 p.unlistedCommitted ++ number16 p.unlistedDelivered
    ++ flag p.short ++ flag p.changeover ++ flag p.unaccounted ++ flag p.strapOrder.isSome ++ flag p.record.isSome
    ++ flag p.strapTimer.isSome ++ flag p.arrivalEye ++ flag p.emptyEye ++ flag p.stackEye ++ flag p.emptyDelta
    ++ flag p.stackDelta

/-- The POCKET page of pocket `k`. -/
def State.pocketPage (k : PocketNo) (s : State) : List Byte :=
  count8 1 ++ (s.pocket k).bytes ++ flag (s.gate k).on ++ count8 (s.gate k).deflecting

/-! ## DEPOSITS (R180) -/

/-- A context of the DEPOSITS page. -/
def Context.bytes (c : Context) : List Byte :=
  count8 c.state.code ++ number16 c.seq ++ cardNumber c.card ++ flag c.declaration.isSome ++ number16 c.openGen
    ++ codeOr (c.endKind.map EndKind.code) ++ number32 c.assigned ++ count8 c.inTransit ++ number32 c.totalCredited
    ++ number32 c.held ++ number32 c.inDoubt ++ valueField c.value ++ flag c.valueSaturated ++ flag c.countSaturated

/-- The DEPOSITS page. -/
def State.depositsPage (s : State) : List Byte :=
  count8 2 ++ number16 s.dpu.nextDeposit
    ++ count8 s.dpu.completion.length ++ s.dpu.completion.flatMap number16
    ++ count8 s.dpu.declarations.length ++ s.dpu.declarations.flatMap (fun d => number32 d.card)
    ++ count8 s.dpu.contexts.length ++ s.dpu.contexts.flatMap Context.bytes

/-! ## TRANSIT (R181) -/

/-- The entry eye code and, while the eye is BLOCKED, the leading position. -/
def EntryEye.bytes (e : EntryEye) : List Byte :=
  match e with
  | .clear => count8 0 ++ number16Or 1 none
  | .blocked lead _ => count8 1 ++ bytes16 lead
  | .void => count8 2 ++ number16Or 1 none

/-- The resolution code of an entry: an object kind, or 4 for UNIDENTIFIED. -/
def Resolution.code : Resolution → Nat
  | .frame n => n.kind.code
  | .unidentified => 4

/-- The destination kind, and the reason or class with it. -/
def destinationBytes (d : Option Destination) : List Byte :=
  match d with
  | none => codeOr none ++ codeOr none
  | some (.reject r) => count8 0 ++ count8 r.code
  | some .hold => count8 1 ++ codeOr none
  | some (.cls c) => count8 2 ++ count8 c.val

/-- An entry of the TRANSIT page. -/
def Entry.bytes (e : Entry) : List Byte :=
  number16 e.seq ++ count8 e.state.code ++ count8 (e.tied.toNat + 2 * e.long.toNat) ++ bytes16 e.lead ++ bytes16 e.trail
    ++ codeOr (e.resolution.map Resolution.code) ++ number16 e.depositKey ++ number16Or 2 e.generation
    ++ codeOr (e.denomination.map Fin.val) ++ destinationBytes e.destination ++ count8 ((e.pocket.map pocketNumber).getD 0)
    ++ flag e.faceValue.isSome

/-- The TRANSIT page. -/
def State.transitPage (s : State) : List Byte :=
  count8 3 ++ bytes16 s.trk.position ++ s.trk.eye.bytes ++ number16 s.trk.nextSeq ++ count8 s.trk.queue.length
    ++ s.trk.queue.flatMap Entry.bytes

/-! ## COUNTERS and WATCH (R182) -/

/-- The COUNTERS page. -/
def State.countersPage (s : State) : List Byte := count8 4 ++ s.evu.counters.toList.flatMap number16

/-- A serial: its length, then 12 bytes. -/
def serialBytes (w : List Byte) : List Byte := count8 w.length ++ w ++ List.replicate (12 - w.length) 0

/-- The last-hit record behind the marker that it is absent (log entry 13). -/
def lastHitBytes (h : Option LastHit) : List Byte :=
  match h with
  | some h => flag false ++ count8 h.index.val ++ serialBytes h.serial ++ number16 h.deposit ++ number16 h.seq
  | none => flag true ++ codeOr none ++ serialBytes [] ++ number16 0 ++ number16Or 3 none

/-- The WATCH page. -/
def State.watchPage (s : State) : List Byte := count8 5 ++ s.rte.hits.toList.flatMap count8 ++ lastHitBytes s.rte.lastHit

end Sys2Proof.Machine
end

