-- ==== Sys2Proof/Machine/Commands.lean ====
section
/-! DEFINITION. The take of a management command (R172 to R175): when it is due, what it removes, and the reply it
appends. What each command does stands in the command files. -/

namespace Sys2Proof.Machine

/-- What a reply says of a command (R174): `code` is `none` for DONE. -/
structure Answer where
  code : Option RefusalCode
  detail : Nat
  page : List Byte
  deriving DecidableEq, Repr

/-- The reply DONE, with no page. -/
def Answer.done : Answer := { code := none, detail := 0, page := [] }

/-- A command carried out. -/
def State.carriedOut (s : State) : State × Answer := (s, Answer.done)

/-- A command refused: nothing outside CMP changes (R173). -/
def State.refuse (s : State) (c : RefusalCode) : State × Answer := (s, { code := some c, detail := 0, page := [] })

/-- A command refused with the number of the check that failed. -/
def State.refuseCheck (s : State) (c : RefusalCode) (n : Nat) : State × Answer :=
  (s, { code := some c, detail := n, page := [] })

/-- A STATUS_QUERY carried out, with its page. -/
def State.reportPage (s : State) (page : List Byte) : State × Answer := (s, { code := none, detail := 0, page := page })

/-- What a command does when it is taken: the state it leaves and the answer. -/
abbrev Act := QueuedCommand → State → State × Answer

/-- R173 step 2: a command whose payload has one length. -/
def needLength (n : Nat) (act : Act) : Act := fun q s =>
  if q.payload.length = n then act q s else s.refuse .badLength

/-- The payload of a REPLY (Table 12-8). -/
def Answer.payload (a : Answer) (kind : Byte) : List Byte :=
  [kind] ++ count8 (if a.code.isSome then 1 else 0) ++ count8 ((a.code.map RefusalCode.code).getD 0) ++ count8 a.detail
    ++ a.page

/-- R174, R175: the reply joins the reply queue, unless the command was a broadcast. -/
def State.answer (q : QueuedCommand) (a : Answer) (s : State) : State :=
  if q.broadcast then s
  else { s with cmp := { s.cmp with
      replies := s.cmp.replies ++ [{ dest := q.src, corr := q.corr, payload := a.payload q.kind }] } }

/-- R172: whether the head of the command queue may be taken. -/
def State.mayTake (s : State) (q : QueuedCommand) : Bool := q.broadcast || decide (s.cmp.replies.length < 4)

/-- R172, R173: the take of a command of one row of the table, with the end of its event. With no such command at the
head, or none that may be taken, the take is not due and nothing happens (log entries 1 and 3). -/
def State.takeCommand (row : Instr) (act : Act) (s : State) : State :=
  match s.cmp.commands with
  | [] => s
  | q :: rest =>
    if rowOf q = row ∧ s.mayTake q = true then
      let r := act q { s with cmp := { s.cmp with commands := rest } }
      (r.1.answer q r.2).settle
    else s

end Sys2Proof.Machine
end

