-- ==== Sys2Proof/Machine/Belt.lean ====
section
/-! DEFINITION. The steps of the belt: RESET, ENCODER_PULSE, the edges of the entry eye, the expiries of marks and the
idle mark (chapters 1, 2, 4 and 8). An expiry that is not due leaves the state as it is (R17; log entries 1 and 6). -/

namespace Sys2Proof.Machine

/-- R163: the station address the straps give. -/
def stationOfStraps (straps : BitVec 6) : Option Nat :=
  if 1 ≤ straps.toNat ∧ straps.toNat ≤ 62 then some straps.toNat else none

/-- Table 5-2: a pocket record as the reset ends, with the levels of its three eyes. -/
def Pocket.resetWith (arrival empty stack : Bool) : Pocket :=
  { Pocket.afterReset with unaccounted := empty, arrivalEye := arrival, emptyEye := empty, stackEye := stack }

/-- The sixteen pocket records as the reset ends. -/
def pocketsAtReset (arrival empty stack : BitVec 16) : Vector Pocket 16 :=
  Vector.ofFn (fun k : PocketNo => Pocket.resetWith (setHas arrival k.val) (setHas empty k.val) (setHas stack k.val))

/-- RESET (R18, R36, R44, R70, R96, R124, R126, R141, R159, R163, R171, R184, R191): every block takes its reset state
with the levels the inputs have as the reset ends. -/
def State.afterReset (straps : BitVec 6) (entryEye running : Bool) (arrival empty stack : BitVec 16) (s : State) :
    State :=
  { State.reset with
    trk := { State.reset.trk with eye := if entryEye then .void else .clear }
    pkm := { State.reset.pkm with pockets := pocketsAtReset arrival empty stack }
    lsv := { State.reset.lsv with running := running }
    lnk := { State.reset.lnk with station := stationOfStraps straps }
    pending := s.pending }

/-- RESET. -/
def execReset (straps : BitVec 6) (entryEye running : Bool) (arrival empty stack : BitVec 16) (s : State) :
    Host.Outcome State Fault Refusal := .next (s.afterReset straps entryEye running arrival empty stack)

/-- R1: the phase advances; at the prescaler it returns to 0 and the position advances. -/
def Tracker.pulse (k : Nat) (t : Tracker) : Tracker :=
  if k ≤ t.phase + 1 then { t with phase := 0, position := t.position + 1 } else { t with phase := t.phase + 1 }

/-- ENCODER_PULSE (R1). -/
def execEncoderPulse (s : State) : Host.Outcome State Fault Refusal :=
  .next { s with trk := s.trk.pulse s.tbs.params.prescaler }

/-- ENTRY_EYE_BLOCKING_EDGE (R4). -/
def execEntryEyeBlockingEdge (s : State) : Host.Outcome State Fault Refusal :=
  .next { s with trk := { s.trk with
      eye := .blocked s.trk.position (ahead s.trk.position (4 * s.tbs.params.maxLength)) } }

/-- The eye returns to CLEAR (R6). -/
def State.clearEye (s : State) : State := { s with trk := { s.trk with eye := .clear } }

/-- R6: a clearing edge. No edge comes at a CLEAR eye (log entry 7). -/
def State.clearingEdge (s : State) : State :=
  match s.trk.eye with
  | .clear => s
  | .void => (s.clearEye.bump .untrackedObjects).settle
  | .blocked lead _ => (s.clearEye.settleObject lead).settle

/-- ENTRY_EYE_CLEARING_EDGE (R6). -/
def execEntryEyeClearingEdge (s : State) : Host.Outcome State Fault Refusal := .next s.clearingEdge

/-- R5: the jam mark, reached while the eye is BLOCKED. -/
def State.jam (s : State) : State :=
  match s.trk.eye with
  | .blocked _ mark =>
    if reached s.trk.position mark then
      (State.haltCause .jamAtEntry { s with trk := { s.trk with eye := .void } }).settle
    else s
  | .clear => s
  | .void => s

/-- JAM_MARK_EXPIRY (R5). -/
def execJamMarkExpiry (s : State) : Host.Outcome State Fault Refusal := .next s.jam

/-- Whether the entry with a sequence stands SEEN with its decision point reached (R17). -/
def State.decisionDue (seq : Nat) (s : State) : Bool :=
  match s.entry seq with
  | some e => decide (e.state = .seen) && reached s.trk.position e.decision
  | none => false

/-- DECISION_POINT_EXPIRY (R29). -/
def execDecisionPointExpiry (seq : Nat) (s : State) : Host.Outcome State Fault Refusal :=
  .next (if s.decisionDue seq then (s.expireDecision seq).settle else s)

/-- GATE_ON_EXPIRY (R57). -/
def execGateOnExpiry (seq : Nat) (s : State) : Host.Outcome State Fault Refusal := .next (s.expireGateOn seq)

/-- GATE_OFF_EXPIRY (R58). -/
def execGateOffExpiry (seq : Nat) (s : State) : Host.Outcome State Fault Refusal := .next (s.expireGateOff seq)

/-- Whether the entry with a sequence has passed its arrival window unseen (R17). -/
def State.windowDue (seq : Nat) (s : State) : Bool :=
  match s.entry seq with
  | some e =>
    match e.windowEnd with
    | some m => !e.arrivalSeen && reached s.trk.position (m + 1)
    | none => false
  | none => false

/-- WINDOW_END_EXPIRY (R66). -/
def execWindowEndExpiry (seq : Nat) (s : State) : Host.Outcome State Fault Refusal :=
  .next (if s.windowDue seq then (s.expireWindow seq).settle else s)

/-- R158: the idle mark, reached while the watch is armed. -/
def State.idleMarkReached (s : State) : State :=
  match s.lsv.idleMark with
  | some m =>
    if reached s.trk.position m = true ∧ s.lsv.idleReached = false then
      State.settle { s with lsv := { s.lsv with idleReached := true } }
    else s
  | none => s

/-- IDLE_MARK_REACHED (R158). -/
def execIdleMarkReached (s : State) : Host.Outcome State Fault Refusal := .next s.idleMarkReached

end Sys2Proof.Machine
end

