-- ==== Sys2Proof/Machine/DepositCommands.lean ====
section
/-! DEFINITION. The deposit commands (chapter 6). -/

namespace Sys2Proof.Machine

/-- R103: whether the declaration list holds a card number. -/
def State.declared (s : State) (card : Nat) : Bool := s.dpu.declarations.any (fun d => d.card == card)

/-- R103: whether a context in use holds a card number. -/
def State.cardOpen (s : State) (card : Nat) : Bool := s.dpu.contexts.any (fun c => decide (c.card = some card))

/-- R103: the range tests of a DECLARE. -/
def declareInRange (p : List Byte) : Bool :=
  decide (1 ≤ number32At p 0 ∧ number32At p 0 ≤ 99999999) && pairsOk (declaredPairs p (count8At p 11) 12)

/-- R103: DECLARE, in the order of Table 6-4. -/
def actDeclare : Act := fun q s =>
  let p := q.payload
  if !declareLengthOk p then s.refuse .badLength
  else if !digitsValid (declaredValueBytes p) then s.refuse .badDigit
  else if !declareInRange p then s.refuse .badIndex
  else if s.declared (number32At p 0) then s.refuse .duplicateCard
  else if s.cardOpen (number32At p 0) then s.refuse .cardOpen
  else if 8 ≤ s.dpu.declarations.length then s.refuse .listFull
  else State.carriedOut { s with dpu := { s.dpu with declarations := s.dpu.declarations ++ [declarationOf p] } }

/-- DECLARE (R103). -/
def execDeclare (s : State) : Host.Outcome State Fault Refusal := .next (s.takeCommand .declare actDeclare)

/-- R104: WITHDRAW. -/
def actWithdraw : Act := fun q s =>
  let card := number32At q.payload 0
  if s.declared card then
    let left := s.dpu.declarations.filter (fun d => !(d.card == card))
    State.carriedOut { s with dpu := { s.dpu with declarations := left } }
  else s.refuse .unknownCard

/-- WITHDRAW (R104). -/
def execWithdraw (s : State) : Host.Outcome State Fault Refusal :=
  .next (s.takeCommand .withdraw (needLength 4 actWithdraw))

/-- R109: FORCE_DEPOSIT_END. -/
def actForceDepositEnd : Act := fun _ s =>
  if s.activeContext.isNone then s.refuse .state else ((s.endActive .forced).swapTrigger).carriedOut

/-- FORCE_DEPOSIT_END (R109). -/
def execForceDepositEnd (s : State) : Host.Outcome State Fault Refusal :=
  .next (s.takeCommand .forceDepositEnd (needLength 0 actForceDepositEnd))

end Sys2Proof.Machine
end

