-- ==== Sys2Proof/Machine/LineCommands.lean ====
section
/-! DEFINITION. LINE_CONTROL (Table 8-3), FEED_HOLD and INTAKE_RESTART (chapters 2 and 8). -/

namespace Sys2Proof.Machine

/-- R144: the line enters RUN. -/
def State.enterRun (s : State) : State := State.release .lineNotRun { s with lsv := { s.lsv with line := .run } }

/-- R144: LINE_CONTROL RUN. -/
def actRun : Act := fun _ s =>
  match s.lsv.line with
  | .ready => s.enterRun.carriedOut
  | .drain => s.enterRun.carriedOut
  | .run => s.carriedOut
  | .standby => s.refuse .state
  | .haltStopping => s.refuse .state
  | .haltStopped => s.refuse .state

/-- LINE_CONTROL_RUN (R144). -/
def execLineControlRun (s : State) : Host.Outcome State Fault Refusal := .next (s.takeCommand .lineControlRun actRun)

/-- R145: feeding ends; the line drains, or is READY at once with an empty queue. -/
def State.stopFeeding (s : State) : State :=
  let t := s.hold .lineNotRun
  if t.trk.queue.isEmpty then t.enterReady else { t with lsv := { t.lsv with line := .drain } }

/-- R145: LINE_CONTROL STOP. -/
def actStop : Act := fun _ s =>
  match s.lsv.line with
  | .run => s.stopFeeding.carriedOut
  | .ready => s.carriedOut
  | .drain => s.carriedOut
  | .standby => s.refuse .state
  | .haltStopping => s.refuse .state
  | .haltStopped => s.refuse .state

/-- LINE_CONTROL_STOP (R145). -/
def execLineControlStop (s : State) : Host.Outcome State Fault Refusal := .next (s.takeCommand .lineControlStop actStop)

/-- R150: LINE_CONTROL HALT. -/
def actHalt : Act := fun _ s => if s.lsv.line = .standby then s.refuse .state else (s.haltCause .command).carriedOut

/-- LINE_CONTROL_HALT (R150). -/
def execLineControlHalt (s : State) : Host.Outcome State Fault Refusal := .next (s.takeCommand .lineControlHalt actHalt)

/-- R154: the line leaves HALT-STOPPED. -/
def State.resume (s : State) : State :=
  State.enterReady { s with lsv := { s.lsv with stopRequest := false, reason := none, further := 0 } }

/-- R154: LINE_CONTROL RESUME. -/
def actResume : Act := fun _ s => if s.lsv.line = .haltStopped then s.resume.carriedOut else s.refuse .state

/-- LINE_CONTROL_RESUME (R154). -/
def execLineControlResume (s : State) : Host.Outcome State Fault Refusal :=
  .next (s.takeCommand .lineControlResume actResume)

/-- R155: whether line clear may be taken. -/
def State.clearAllowed (s : State) : Bool :=
  decide (s.lsv.line = .ready ∨ s.lsv.line = .haltStopped) && s.firstRecord.isNone

/-- R155: line clear. -/
def State.lineClear (s : State) : State := s.abortDeposits.clearPockets.swapTrigger

/-- R155: LINE_CONTROL CLEAR. -/
def actClear : Act := fun _ s => if s.clearAllowed then s.lineClear.carriedOut else s.refuse .state

/-- LINE_CONTROL_CLEAR (R155). -/
def execLineControlClear (s : State) : Host.Outcome State Fault Refusal :=
  .next (s.takeCommand .lineControlClear actClear)

/-- R157: FEED_HOLD set. -/
def actFeedHoldSet : Act := fun _ s => (s.hold .operator).carriedOut

/-- FEED_HOLD_SET (R157). -/
def execFeedHoldSet (s : State) : Host.Outcome State Fault Refusal := .next (s.takeCommand .feedHoldSet actFeedHoldSet)

/-- R157: FEED_HOLD clear. -/
def actFeedHoldClear : Act := fun _ s => (s.release .operator).carriedOut

/-- FEED_HOLD_CLEAR (R157). -/
def execFeedHoldClear (s : State) : Host.Outcome State Fault Refusal :=
  .next (s.takeCommand .feedHoldClear actFeedHoldClear)

/-- R22: INTAKE_RESTART. -/
def actIntakeRestart : Act := fun _ s =>
  (State.release .intakeOverrun { s with idu := { s.idu with overrun := false } }).carriedOut

/-- INTAKE_RESTART (R22). -/
def execIntakeRestart (s : State) : Host.Outcome State Fault Refusal :=
  .next (s.takeCommand .intakeRestart (needLength 0 actIntakeRestart))

end Sys2Proof.Machine
end

