-- ==== Sys2Proof/Machine/LinkEvents.lean ====
section
/-! DEFINITION. The steps of the link and of the blocks that feed on it: LINK_FRAME_RECEIVED, TRANSMISSION_END,
INTAKE_TAKE and STRAP_TIMER_EXPIRY (chapters 2, 5 and 9). -/

namespace Sys2Proof.Machine

/-- LINK_FRAME_RECEIVED (R161): the bytes, one after another; each frame they complete is an event of its own (log
entry 4). -/
def execLinkFrameReceived (bytes : List Byte) (s : State) : Host.Outcome State Fault Refusal :=
  .next (bytes.foldl State.receiveByte s)

/-- R23: the take of the oldest frame of the intake FIFO. -/
def State.intakeTake (s : State) : State :=
  match s.idu.fifo with
  | r :: rest => (State.takeFrame r { s with idu := { s.idu with fifo := rest } }).settle
  | [] => s

/-- INTAKE_TAKE (R23). -/
def execIntakeTake (s : State) : Host.Outcome State Fault Refusal := .next s.intakeTake

/-- R84: the strap timer of a STRAPPING pocket expires. -/
def State.strapTimeout (k : PocketNo) (s : State) : State := (s.issueRecord k .strapTimeout).faultPocket k

/-- STRAP_TIMER_EXPIRY (R84), due while the pocket is STRAPPING and its timer runs (log entry 5). -/
def execStrapTimerExpiry (k : PocketNo) (s : State) : Host.Outcome State Fault Refusal :=
  .next (if (s.pocket k).state = .strapping ∧ (s.pocket k).strapTimer ≠ none then (s.strapTimeout k).settle else s)

/-- R168: the transmit slot empties. -/
def State.emptySlot (s : State) : State := { s with lnk := { s.lnk with slot := none } }

/-- TRANSMISSION_END (R168), due while the slot holds a frame. -/
def execTransmissionEnd (s : State) : Host.Outcome State Fault Refusal :=
  .next (if s.lnk.slot.isSome then s.emptySlot.settle else s)

end Sys2Proof.Machine
end

