-- ==== Sys2Proof/Machine/PocketCommands.lean ====
section
/-! DEFINITION. POCKET_CONTROL (chapter 5), whose second payload byte is the pocket number. -/

namespace Sys2Proof.Machine

/-- A command on the pocket its payload names; a number outside 1 to 16 is refused with BAD_INDEX. -/
def onPocket (act : PocketNo → State → State × Answer) : Act := fun q s =>
  match pocketOfNumber (count8At q.payload 1) with
  | some k => act k s
  | none => s.refuse .badIndex

/-- A pocket in OPEN or FULL. -/
def Pocket.accepting (p : Pocket) : Bool := decide (p.state = .open ∨ p.state = .full)

/-- R92: INHIBIT. -/
def actInhibit (k : PocketNo) (s : State) : State × Answer :=
  if k ≠ pocket1 ∧ (s.pocket k).accepting = true then
    (s.putPocket k { s.pocket k with state := .inhibited }).carriedOut
  else s.refuse .state

/-- POCKET_CONTROL_INHIBIT (R92). -/
def execPocketControlInhibit (s : State) : Host.Outcome State Fault Refusal :=
  .next (s.takeCommand .pocketControlInhibit (onPocket actInhibit))

/-- R92: what RELEASE makes of an INHIBITED pocket. -/
def Pocket.release (b : Bank) (k : PocketNo) (p : Pocket) : Pocket :=
  if p.changeover then p.close b k
  else if p.isLoose = true ∧ 0 < p.held ∧ p.committed = 0 ∧ p.emptyEye = false then
    { p with state := .awaitingRemoval, short := p.short || decide (p.held < p.limit) }
  else p.enterOpen.completionTest

/-- R92: RELEASE. -/
def actRelease (k : PocketNo) (s : State) : State × Answer :=
  if (s.pocket k).state = .inhibited then
    (s.reenterPocket k ((s.pocket k).release s.tbs.active k)).carriedOut
  else s.refuse .state

/-- POCKET_CONTROL_RELEASE (R92). -/
def execPocketControlRelease (s : State) : Host.Outcome State Fault Refusal :=
  .next (s.takeCommand .pocketControlRelease (onPocket actRelease))

/-- R90: CLOSE_SHORT. -/
def actCloseShort (k : PocketNo) (s : State) : State × Answer :=
  if k ≠ pocket1 ∧ (s.pocket k).accepting = true then
    (s.reenterPocket k ((s.pocket k).close s.tbs.active k)).carriedOut
  else s.refuse .state

/-- POCKET_CONTROL_CLOSE_SHORT (R90). -/
def execPocketControlCloseShort (s : State) : Host.Outcome State Fault Refusal :=
  .next (s.takeCommand .pocketControlCloseShort (onPocket actCloseShort))

/-- R94: CLEAR of a FAULT pocket that has passed its tests. -/
def State.clearFault (k : PocketNo) (s : State) : State :=
  let t := if 0 < (s.pocket k).held then s.issueRecord k .discardedFault else s
  State.startBundle k (t.storePocket k { t.pocket k with unaccounted := false })

/-- R94: CLEAR of an UNACCOUNTED pocket whose empty eye is inactive. -/
def State.clearUnaccounted (k : PocketNo) (s : State) : State :=
  let p := { s.pocket k with unaccounted := false }
  s.reenterPocket k (if p.changeover then p.takeAssignment s.tbs.active k else p.enterOpen)

/-- R94: CLEAR, in the order of Table 5-5. -/
def actPocketClear (k : PocketNo) (s : State) : State × Answer :=
  let p := s.pocket k
  if p.state ≠ .fault ∧ p.state ≠ .unaccounted then s.refuse .state
  else if p.emptyEye then s.refuse .eyeNotEmpty
  else if p.state = .fault then
    if 0 < p.committed ∨ p.record ≠ none then s.refuse .state else (s.clearFault k).carriedOut
  else (s.clearUnaccounted k).carriedOut

/-- POCKET_CONTROL_CLEAR (R94). -/
def execPocketControlClear (s : State) : Host.Outcome State Fault Refusal :=
  .next (s.takeCommand .pocketControlClear (onPocket actPocketClear))

end Sys2Proof.Machine
end

