-- ==== Sys2Proof/Machine/ReportCommands.lean ====
section
/-! DEFINITION. The reporting commands (R176 to R182), and the two refusals of R173 that have rows of their own. -/

namespace Sys2Proof.Machine

/-- The event-kind set of a payload at an offset. -/
def eventSetAt (p : List Byte) (i : Nat) : BitVec 16 := BitVec.ofNat 16 (number16At p i)

/-- R176: EVENT_ENABLE set. -/
def actEnableSet : Act := fun q s =>
  State.carriedOut { s with evu := s.evu.withSets s.evu.pending (s.evu.enable ||| eventSetAt q.payload 1) }

/-- EVENT_ENABLE_SET (R176). -/
def execEventEnableSet (s : State) : Host.Outcome State Fault Refusal := .next (s.takeCommand .eventEnableSet actEnableSet)

/-- R176: EVENT_ENABLE clear. -/
def actEnableClear : Act := fun q s =>
  State.carriedOut { s with evu := s.evu.withSets s.evu.pending (s.evu.enable &&& ~~~(eventSetAt q.payload 1)) }

/-- EVENT_ENABLE_CLEAR (R176). -/
def execEventEnableClear (s : State) : Host.Outcome State Fault Refusal :=
  .next (s.takeCommand .eventEnableClear actEnableClear)

/-- R176: EVENT_CLEAR. -/
def actEventClear : Act := fun q s =>
  State.carriedOut { s with evu := s.evu.withSets (s.evu.pending &&& ~~~(eventSetAt q.payload 0)) s.evu.enable }

/-- EVENT_CLEAR (R176). -/
def execEventClear (s : State) : Host.Outcome State Fault Refusal :=
  .next (s.takeCommand .eventClear (needLength 2 actEventClear))

/-- R176, R44: COUNTERS_CLEAR. -/
def actCountersClear : Act := fun _ s =>
  State.carriedOut { s with
    evu := { s.evu with counters := Vector.replicate 13 0 }
    rte := { hits := Vector.replicate 32 0, lastHit := none } }

/-- COUNTERS_CLEAR (R176). -/
def execCountersClear (s : State) : Host.Outcome State Fault Refusal :=
  .next (s.takeCommand .countersClear (needLength 0 actCountersClear))

/-- STATUS_QUERY_LINE (R178). -/
def execStatusQueryLine (s : State) : Host.Outcome State Fault Refusal :=
  .next (s.takeCommand .statusQueryLine (fun _ s => s.reportPage s.linePage))

/-- R87: the two deltas of a reported pocket are cleared. -/
def State.clearDeltas (k : PocketNo) (s : State) : State :=
  s.storePocket k { s.pocket k with emptyDelta := false, stackDelta := false }

/-- R177, R179: the POCKET page, reported with its deltas as they stood. -/
def actPocketPage (k : PocketNo) (s : State) : State × Answer := (s.clearDeltas k).reportPage (s.pocketPage k)

/-- R177: the POCKET page of the pocket the payload names; a number outside 1 to 16 is refused with BAD_INDEX. -/
def actQueryPocket : Act := fun q s =>
  match pocketOfNumber (count8At q.payload 1) with
  | some k => actPocketPage k s
  | none => s.refuse .badIndex

/-- STATUS_QUERY_POCKET (R179). -/
def execStatusQueryPocket (s : State) : Host.Outcome State Fault Refusal :=
  .next (s.takeCommand .statusQueryPocket actQueryPocket)

/-- STATUS_QUERY_DEPOSITS (R180). -/
def execStatusQueryDeposits (s : State) : Host.Outcome State Fault Refusal :=
  .next (s.takeCommand .statusQueryDeposits (fun _ s => s.reportPage s.depositsPage))

/-- STATUS_QUERY_TRANSIT (R181). -/
def execStatusQueryTransit (s : State) : Host.Outcome State Fault Refusal :=
  .next (s.takeCommand .statusQueryTransit (fun _ s => s.reportPage s.transitPage))

/-- STATUS_QUERY_COUNTERS (R182). -/
def execStatusQueryCounters (s : State) : Host.Outcome State Fault Refusal :=
  .next (s.takeCommand .statusQueryCounters (fun _ s => s.reportPage s.countersPage))

/-- STATUS_QUERY_WATCH (R182). -/
def execStatusQueryWatch (s : State) : Host.Outcome State Fault Refusal :=
  .next (s.takeCommand .statusQueryWatch (fun _ s => s.reportPage s.watchPage))

/-- UNKNOWN_KIND (R173 step 1). -/
def execUnknownKind (s : State) : Host.Outcome State Fault Refusal :=
  .next (s.takeCommand .unknownKind (fun _ s => s.refuse .unknownKind))

/-- R173 steps 2 and 3: a length that is wrong before a code that is not assigned. -/
def actCodeRefusal : Act := fun q s =>
  if q.payload.length = codedLength q.kind then s.refuse .badIndex else s.refuse .badLength

/-- PARAMETER_CODE_REFUSAL (R173). -/
def execParameterCodeRefusal (s : State) : Host.Outcome State Fault Refusal :=
  .next (s.takeCommand .parameterCodeRefusal actCodeRefusal)

end Sys2Proof.Machine
end

