-- ==== Sys2Proof/Machine/Sensors.lean ====
section
/-! DEFINITION. The steps of the pocket eyes and of RUNNING, and the stop event (chapters 4, 5 and 8). -/

namespace Sys2Proof.Machine

/-! ## Arrival eyes -/

/-- R61: the level of a pocket's arrival eye. -/
def State.setArrivalEye (k : PocketNo) (level : Bool) (s : State) : State :=
  s.storePocket k { s.pocket k with arrivalEye := level }

/-- R62 to R64: an arrival at pocket `k`. -/
def State.arrive (k : PocketNo) (s : State) : State :=
  match s.arrivalMatch k with
  | some e => s.deliverEntry k e
  | none => (s.strayPocket k).haltCause .strayArrival

/-- ARRIVAL (R61). -/
def execArrival (k : PocketNo) (s : State) : Host.Outcome State Fault Refusal :=
  .next (((s.setArrivalEye k true).arrive k).settle)

/-- ARRIVAL_EYE_CLEARING_EDGE (R61). -/
def execArrivalEyeClearingEdge (k : PocketNo) (s : State) : Host.Outcome State Fault Refusal :=
  .next (s.setArrivalEye k false)

/-! ## Empty eyes (R86, R87) -/

/-- An empty eye goes inactive at a pocket whose bundle has not ended and which holds notes: the notes have left it. -/
def State.notesTaken (k : PocketNo) (s : State) : State :=
  let p := s.pocket k
  if p.held = 0 then s
  else if p.isStrapped then s.faultPocket k
  else if p.isLoose then
    if 0 < p.committed then s.faultPocket k
    else s.putPocket k { p with state := .awaitingRemoval, short := p.short || decide (p.held < p.limit) }
  else s

/-- An empty eye goes inactive at an INHIBITED pocket. -/
def State.inhibitedTaken (k : PocketNo) (s : State) : State :=
  let p := s.pocket k
  if (p.isStrapped = true ∧ 0 < p.held) ∨ (p.isLoose = true ∧ 0 < p.committed) then s.faultPocket k else s

/-- An empty eye goes inactive at a COMPLETE pocket. -/
def State.completeTaken (k : PocketNo) (s : State) : State :=
  if (s.pocket k).isStrapped = true ∧ 0 < (s.pocket k).held then s.faultPocket k else s

/-- What an edge of an empty eye does to the pocket's state. -/
def State.emptyEdgeActs (k : PocketNo) (active : Bool) (s : State) : State :=
  match (s.pocket k).state with
  | .disabled => s.putPocket k { s.pocket k with unaccounted := active }
  | .open => if active then s else s.notesTaken k
  | .full => if active then s else s.notesTaken k
  | .closing => if active then s else s.notesTaken k
  | .complete => if active then s else s.completeTaken k
  | .inhibited => if active then s else s.inhibitedTaken k
  | .unaccounted => s
  | .strapping => s
  | .awaitingRemoval => s
  | .fault => s

/-- R87: level, delta and event of an empty-eye edge. -/
def State.noteEmptyEdge (k : PocketNo) (active : Bool) (s : State) : State :=
  State.raise .pocketEyeChange (s.storePocket k { s.pocket k with emptyEye := active, emptyDelta := true })

/-- EMPTY_EYE_EDGE (R87). -/
def execEmptyEyeEdge (k : PocketNo) (active : Bool) (s : State) : Host.Outcome State Fault Refusal :=
  .next (((s.noteEmptyEdge k active).emptyEdgeActs k active).settle)

/-! ## Stack eyes (R72, R87) -/

/-- R87: level, delta and event of a stack-eye edge. -/
def State.noteStackEdge (k : PocketNo) (active : Bool) (s : State) : State :=
  State.raise .pocketEyeChange (s.storePocket k { s.pocket k with stackEye := active, stackDelta := true })

/-- R72: a loose pocket's limit is set at each edge of its stack eye. -/
def State.stackEdgeActs (k : PocketNo) (s : State) : State :=
  if (s.pocket k).isLoose then s.putPocket k (s.pocket k).setLimit else s

/-- STACK_EYE_EDGE (R72). -/
def execStackEyeEdge (k : PocketNo) (active : Bool) (s : State) : Host.Outcome State Fault Refusal :=
  .next (((s.noteStackEdge k active).stackEdgeActs k).settle)

/-! ## RUNNING and the stop event -/

/-- The level of RUNNING as last seen. -/
def State.setRunning (level : Bool) (s : State) : State := { s with lsv := { s.lsv with running := level } }

/-- R147: RUNNING falls in RUN or DRAIN. -/
def State.transportStops (s : State) : State := if s.trk.queue.isEmpty then s else s.haltCause .transportStopped

/-- R147: a falling edge, once the level is stored. -/
def State.runningFalls (s : State) : State :=
  match s.lsv.line with
  | .run => s.transportStops
  | .drain => s.transportStops
  | .haltStopping => s.stopEvent
  | .standby => s
  | .ready => s
  | .haltStopped => s

/-- RUNNING_FALLING_EDGE (R147). -/
def execRunningFallingEdge (s : State) : Host.Outcome State Fault Refusal :=
  .next (((s.setRunning false).runningFalls).settle)

/-- RUNNING_RISING_EDGE (R147). -/
def execRunningRisingEdge (s : State) : Host.Outcome State Fault Refusal := .next ((s.setRunning true).settle)

/-- STOP_EVENT (R151), due while R149 has scheduled it. -/
def execStopEvent (s : State) : Host.Outcome State Fault Refusal :=
  .next (if s.lsv.stopScheduled then s.stopEvent.settle else s)

end Sys2Proof.Machine
end

