-- ==== Sys2Proof/Machine/TableCommands.lean ====
section
/-! DEFINITION. The table and line-parameter commands (chapter 7). -/

namespace Sys2Proof.Machine

/-- R127: whether kind, first index and count name entries of a table, with its indices from `tableBase` on (log
entry 29). -/
def loadInRange (p : List Byte) : Bool :=
  (entrySize (count8At p 0)).isSome && decide (1 ≤ count8At p 2)
    && decide (tableBase (count8At p 0) ≤ count8At p 1)
    && decide (count8At p 1 + count8At p 2 - 1 < tableBase (count8At p 0) + tableSize (count8At p 0))

/-- R127, R128: LOAD_TABLE. -/
def actLoadTable : Act := fun q s =>
  if !loadLengthOk q.payload then s.refuse .badLength
  else if s.tbs.swapPending then s.refuse .swapPending
  else if !loadInRange q.payload then s.refuse .badIndex
  else State.carriedOut { s with tbs := { s.tbs with shadow := loadBank s.tbs.shadow q.payload } }

/-- LOAD_TABLE (R127). -/
def execLoadTable (s : State) : Host.Outcome State Fault Refusal := .next (s.takeCommand .loadTable actLoadTable)

/-- R129: COPY_ACTIVE_TO_SHADOW. -/
def actCopy : Act := fun _ s =>
  if s.tbs.swapPending then s.refuse .swapPending
  else if s.lsv.line = .standby then s.refuse .state
  else State.carriedOut { s with tbs := { s.tbs with shadow := s.tbs.active } }

/-- COPY_ACTIVE_TO_SHADOW (R129). -/
def execCopyActiveToShadow (s : State) : Host.Outcome State Fault Refusal :=
  .next (s.takeCommand .copyActiveToShadow (needLength 0 actCopy))

/-- R131: a commit that has passed its checks. -/
def State.commitTables (s : State) : State :=
  if s.activeContext.isNone = true ∧ s.trk.queue.isEmpty = true then s.swap
  else { s with tbs := { s.tbs with swapPending := true } }

/-- R130, R131: COMMIT_TABLES. -/
def actCommit : Act := fun _ s =>
  if s.tbs.swapPending then s.refuse .swapPending
  else
    match s.tbs.shadow.failedCheck s.tbs.params with
    | some n => s.refuseCheck .invalidTables n
    | none => s.commitTables.carriedOut

/-- COMMIT_TABLES (R130). -/
def execCommitTables (s : State) : Host.Outcome State Fault Refusal :=
  .next (s.takeCommand .commitTables (needLength 0 actCommit))

/-- R134: CANCEL_COMMIT. -/
def actCancel : Act := fun _ s =>
  if s.tbs.swapPending then State.carriedOut { s with tbs := { s.tbs with swapPending := false } }
  else s.refuse .state

/-- CANCEL_COMMIT (R134). -/
def execCancelCommit (s : State) : Host.Outcome State Fault Refusal :=
  .next (s.takeCommand .cancelCommit (needLength 0 actCancel))

/-- R81: with no strapping station the waiting strap orders are emptied out of their slots. -/
def PocketMonitor.withoutOrders (m : PocketMonitor) : PocketMonitor :=
  { m with pockets := m.pockets.map (fun p => { p with strapOrder := none }) }

/-- R3, R79, R81, R140, R158: an accepted parameter set takes effect. -/
def State.setParameters (p : LineParameters) (s : State) : State :=
  let pkm := if p.strappingStation = none then s.pkm.withoutOrders else s.pkm
  { s with
    trk := { s.trk with phase := 0 }
    tbs := { s.tbs with params := p }
    pkm := { pkm with nextBundle := if p.bundleBase = 0 then pkm.nextBundle else p.bundleBase }
    lsv := { s.lsv with idleMark := none, idleReached := false, idleRaised := false } }

/-- R137: whether the line state lets the parameters be set. -/
def LineState.takesParameters : LineState → Bool
  | .standby => true
  | .ready => true
  | .run => false
  | .drain => false
  | .haltStopping => false
  | .haltStopped => false

/-- R136 to R140: SET_LINE_PARAMETERS. -/
def actSetLineParameters : Act := fun q s =>
  if !s.lsv.line.takesParameters then s.refuse .state
  else
    match s.tbs.failedParameters (parametersOf q.payload) with
    | some n => s.refuseCheck .geometry n
    | none => (s.setParameters (parametersOf q.payload)).carriedOut

/-- SET_LINE_PARAMETERS (R137). -/
def execSetLineParameters (s : State) : Host.Outcome State Fault Refusal :=
  .next (s.takeCommand .setLineParameters (needLength 196 actSetLineParameters))

end Sys2Proof.Machine
end

