-- ==== Sys2Proof/Machine/Dispatch.lean ====
section
/-! DEFINITION. Which meaning each command has. -/

namespace Sys2Proof.Machine

/-- The effect of a command on everything but the queue of waiting commands. -/
def exec (i : Instr) (s : State) : Host.Outcome State Fault Refusal :=
  match i with
  | .reset straps entryEye running arrivalEyes emptyEyes stackEyes => Sys2Proof.Machine.execReset straps entryEye running arrivalEyes emptyEyes stackEyes s
  | .encoderPulse => Sys2Proof.Machine.execEncoderPulse s
  | .entryEyeBlockingEdge => Sys2Proof.Machine.execEntryEyeBlockingEdge s
  | .entryEyeClearingEdge => Sys2Proof.Machine.execEntryEyeClearingEdge s
  | .jamMarkExpiry => Sys2Proof.Machine.execJamMarkExpiry s
  | .decisionPointExpiry seq => Sys2Proof.Machine.execDecisionPointExpiry seq s
  | .gateOnExpiry seq => Sys2Proof.Machine.execGateOnExpiry seq s
  | .gateOffExpiry seq => Sys2Proof.Machine.execGateOffExpiry seq s
  | .windowEndExpiry seq => Sys2Proof.Machine.execWindowEndExpiry seq s
  | .idleMarkReached => Sys2Proof.Machine.execIdleMarkReached s
  | .arrival pocket => Sys2Proof.Machine.execArrival pocket s
  | .arrivalEyeClearingEdge pocket => Sys2Proof.Machine.execArrivalEyeClearingEdge pocket s
  | .emptyEyeEdge pocket active => Sys2Proof.Machine.execEmptyEyeEdge pocket active s
  | .stackEyeEdge pocket active => Sys2Proof.Machine.execStackEyeEdge pocket active s
  | .runningFallingEdge => Sys2Proof.Machine.execRunningFallingEdge s
  | .runningRisingEdge => Sys2Proof.Machine.execRunningRisingEdge s
  | .stopEvent => Sys2Proof.Machine.execStopEvent s
  | .linkFrameReceived bytes => Sys2Proof.Machine.execLinkFrameReceived bytes s
  | .intakeTake => Sys2Proof.Machine.execIntakeTake s
  | .strapTimerExpiry pocket => Sys2Proof.Machine.execStrapTimerExpiry pocket s
  | .transmissionEnd => Sys2Proof.Machine.execTransmissionEnd s
  | .loadTable => Sys2Proof.Machine.execLoadTable s
  | .copyActiveToShadow => Sys2Proof.Machine.execCopyActiveToShadow s
  | .commitTables => Sys2Proof.Machine.execCommitTables s
  | .cancelCommit => Sys2Proof.Machine.execCancelCommit s
  | .setLineParameters => Sys2Proof.Machine.execSetLineParameters s
  | .declare => Sys2Proof.Machine.execDeclare s
  | .withdraw => Sys2Proof.Machine.execWithdraw s
  | .lineControlRun => Sys2Proof.Machine.execLineControlRun s
  | .lineControlStop => Sys2Proof.Machine.execLineControlStop s
  | .lineControlHalt => Sys2Proof.Machine.execLineControlHalt s
  | .lineControlResume => Sys2Proof.Machine.execLineControlResume s
  | .lineControlClear => Sys2Proof.Machine.execLineControlClear s
  | .unknownKind => Sys2Proof.Machine.execUnknownKind s
  | .forceDepositEnd => Sys2Proof.Machine.execForceDepositEnd s
  | .pocketControlInhibit => Sys2Proof.Machine.execPocketControlInhibit s
  | .pocketControlRelease => Sys2Proof.Machine.execPocketControlRelease s
  | .pocketControlCloseShort => Sys2Proof.Machine.execPocketControlCloseShort s
  | .pocketControlClear => Sys2Proof.Machine.execPocketControlClear s
  | .feedHoldSet => Sys2Proof.Machine.execFeedHoldSet s
  | .feedHoldClear => Sys2Proof.Machine.execFeedHoldClear s
  | .intakeRestart => Sys2Proof.Machine.execIntakeRestart s
  | .eventEnableSet => Sys2Proof.Machine.execEventEnableSet s
  | .eventEnableClear => Sys2Proof.Machine.execEventEnableClear s
  | .eventClear => Sys2Proof.Machine.execEventClear s
  | .countersClear => Sys2Proof.Machine.execCountersClear s
  | .statusQueryLine => Sys2Proof.Machine.execStatusQueryLine s
  | .statusQueryPocket => Sys2Proof.Machine.execStatusQueryPocket s
  | .statusQueryDeposits => Sys2Proof.Machine.execStatusQueryDeposits s
  | .statusQueryTransit => Sys2Proof.Machine.execStatusQueryTransit s
  | .statusQueryCounters => Sys2Proof.Machine.execStatusQueryCounters s
  | .statusQueryWatch => Sys2Proof.Machine.execStatusQueryWatch s
  | .parameterCodeRefusal => Sys2Proof.Machine.execParameterCodeRefusal s

end Sys2Proof.Machine
end

