-- ==== Sys2Proof/Safety.lean ====
section
/-! DEFINITION. The terms in which claims about the part are stated: what the end of an event leaves alone, when nothing is
left waiting for the end of an event, what a taken command leaves in the two queues of CMP, and the invariants. -/

namespace Sys2Proof.Machine

/-! ## What the end of an event leaves alone -/

/-- What the end of an event keeps of a pocket record: the committed counts, the unaccounted marker, the eyes and their
deltas. The rest may change where an order or a record is issued or placed there (R81, R82, R85, R95). -/
def Pocket.steady (p : Pocket) : Pocket :=
  { Pocket.afterReset with
    committed := p.committed
    unlistedCommitted := p.unlistedCommitted
    unaccounted := p.unaccounted
    arrivalEye := p.arrivalEye
    emptyEye := p.emptyEye
    stackEye := p.stackEye
    emptyDelta := p.emptyDelta
    stackDelta := p.stackDelta }

/-- The feed-hold reasons that the end of an event keeps: all but CLASS_BLOCKED, LOOSE_NEAR_FULL, CONTEXT_SHORTAGE and
RECORD_BACKLOG. -/
def steadyHolds (w : BitVec 8) : BitVec 8 := w &&& 0x87#8

/-- The pending event kinds that the end of an event keeps as they are: all but LOOSE_NEAR_FULL and FEED_IDLE. -/
def steadyEvents (w : BitVec 16) : BitVec 16 := w &&& 0xEFEF#16

/-- The state with everything blanked that the end of an event may change: the pocket records but for `Pocket.steady`, the
RECORD_PENDING contexts, some reasons and event kinds, the flags of the event frame, the reply queue, the forward queue and
the transmit slot. Two states with the same `steady` agree in all else: the tracker, the intake, the watch state, the gates,
the ACTIVE and DRAINING deposits, the declarations, the tables, the line state, the halt causes, the counters, the enables,
the command queue, the station, the receiver. -/
def State.steady (s : State) : State :=
  { s with
    pkm := { pockets := s.pkm.pockets.map Pocket.steady, nextBundle := 0, blocked := 0 }
    dpu := { s.dpu with contexts := s.dpu.contexts.filter Context.counting, completion := [] }
    lsv := { s.lsv with holds := steadyHolds s.lsv.holds, idleRaised := false }
    lnk := { s.lnk with forward := [], slot := none }
    cmp := { s.cmp with replies := [] }
    evu := { s.evu with
      pending := steadyEvents s.evu.pending, owed := false, frameNumber := 0, attn := false } }

/-- `t` agrees with `s` in everything that the end of an event leaves alone. -/
def State.AgreesWith (t s : State) : Prop := t.steady = s.steady

/-! ## Nothing left waiting -/

/-- Pocket `k` waits for nothing that R81 or R85 would do at once. -/
def State.PocketQuiet (s : State) (k : PocketNo) : Prop :=
  ¬ ((s.pocket k).state = .complete ∧ (s.pocket k).strapOrder = none ∧ (s.pocket k).record = none
      ∧ s.tbs.params.strappingStation ≠ none)
    ∧ ¬ ((s.pocket k).state = .awaitingRemoval ∧ (s.pocket k).emptyEye = false ∧ (s.pocket k).record = none)

/-- No frame waits at any source of the arbiter (Table 9-6). -/
def State.NothingWaits (s : State) : Prop :=
  s.cmp.replies = [] ∧ s.nextRecord = none ∧ s.firstOrder = none ∧ s.firstRecord = none ∧ s.evu.owed = false
    ∧ s.lnk.forward = []

/-- Between events nothing is left undone that the manual does "in the first event after which" something holds: the
held-back orders and removals (R81, R85), LOOSE_NEAR_FULL (R80), FEED_IDLE (R158), the transmit slot (R169) and
RECORD_BACKLOG (R170). -/
def State.Quiet (s : State) : Prop :=
  (∀ k, s.PocketQuiet k)
    ∧ s.held .looseNearFull = ((s.pocket pocket1).nearFull || (s.pocket pocket2).nearFull)
    ∧ s.idleDue = false
    ∧ (s.lnk.slot = none → s.NothingWaits)
    ∧ (s.recordsWaiting = [] → s.held .recordBacklog = false)
    ∧ (s.recordHeldUp = true → s.held .recordBacklog = true)

/-! ## Taken commands -/

/-- `q` is the head of the command queue, `rest` stands behind it, it is a command of row `row`, and it may be taken. -/
def State.Due (s : State) (row : Instr) (q : QueuedCommand) (rest : List QueuedCommand) : Prop :=
  s.cmp.commands = q :: rest ∧ rowOf q = row ∧ s.mayTake q = true

/-- The reply to a command. -/
def replyTo (q : QueuedCommand) (a : Answer) : Reply := { dest := q.src, corr := q.corr, payload := a.payload q.kind }

/-- The REPLY frame of a reply (Table 9-6, Table 12-2). -/
def State.replyFrame (s : State) (r : Reply) : TxFrame :=
  { source := .reply, bytes := frameBytes r.dest s.ownStation 0x40 r.corr r.payload }

/-- What the take of an addressed command leaves in CMP and LNK when the transmit slot, if empty, is empty because nothing
waited: the command has left its queue, and its reply stands in the slot if that was empty, else behind the other replies. -/
def State.concluded (q : QueuedCommand) (rest : List QueuedCommand) (a : Answer) (s : State) : State :=
  if s.lnk.slot = none then
    { s with cmp := { commands := rest, replies := [] }, lnk := { s.lnk with slot := some (s.replyFrame (replyTo q a)) } }
  else { s with cmp := { commands := rest, replies := s.cmp.replies ++ [replyTo q a] } }

/-- The same for a broadcast, which leaves no reply (R175). -/
def State.concludedQuietly (rest : List QueuedCommand) (s : State) : State :=
  { s with cmp := { s.cmp with commands := rest } }

/-- The reply queue and the transmit slot after an addressed command, in every state: the reply is appended, and if the slot
was empty the oldest reply is placed (R169, R174). -/
def State.Replied (s : State) (q : QueuedCommand) (a : Answer) (t : State) : Prop :=
  if s.lnk.slot = none then
    (s.cmp.replies ++ [replyTo q a]).head?.map s.replyFrame = t.lnk.slot
      ∧ t.cmp.replies = (s.cmp.replies ++ [replyTo q a]).tail
  else t.lnk.slot = s.lnk.slot ∧ t.cmp.replies = s.cmp.replies ++ [replyTo q a]

/-- The answer REFUSED with a code and a detail. -/
def refusal (c : RefusalCode) (detail : Nat) : Answer := { code := some c, detail := detail, page := [] }

/-- The answer DONE with a page. -/
def pageAnswer (page : List Byte) : Answer := { code := none, detail := 0, page := page }

/-- The take of an addressed command of row `row` that answers `a` and, but for the queues of CMP and the transmit slot,
leaves `u`; `u` already has the command taken from its queue. -/
def State.Answers (s : State) (row : Instr) (q : QueuedCommand) (a : Answer) (u t : State) : Prop :=
  exec row s = .next t ∧ s.Replied q a t ∧ t.AgreesWith u

/-- The state with the head of the command queue taken. -/
def State.taken (s : State) (rest : List QueuedCommand) : State := { s with cmp := { s.cmp with commands := rest } }

/-- R132, steps 1 to 3 and 6: the banks exchange roles, the generation advances, the marker is cleared, and a line in
STANDBY is READY; with BANK_SWAPPED raised (step 5). What step 4 does to the pockets is `Pocket.changeBank`. -/
def State.swapped (s : State) : State :=
  State.raise .bankSwapped { s with
    tbs := { s.tbs with
      active := s.tbs.shadow, shadow := s.tbs.active, swapPending := false,
      generation := if s.tbs.generation < 65535 then s.tbs.generation + 1 else 1 }
    lsv := { s.lsv with line := if s.lsv.line = .standby then .ready else s.lsv.line } }

/-- R133: the same while a swap is pending, and nothing without one. -/
def State.swappedIfPending (s : State) : State := if s.tbs.swapPending then s.swapped else s

/-! ## Invariants -/

/-- R186, R187: ATTN is active exactly while the intersection of the pending set and the enable set is not empty, and no
EVENT frame is owed while it is empty. -/
def State.AttnFollows (s : State) : Prop :=
  (s.evu.attn = true ↔ s.evu.pending &&& s.evu.enable ≠ 0)
    ∧ (s.evu.owed = true → s.evu.pending &&& s.evu.enable ≠ 0)

/-- R156: LINE_NOT_RUN is in the feed-hold reason set exactly while the line state is not RUN. -/
def State.LineHeld (s : State) : Prop := s.held .lineNotRun = true ↔ s.lsv.line ≠ .run

/-- Table 8-1, Table 8-2: outside HALT there is no halt reason, no further cause and no stop request; in HALT there is a
reason, which is not in the further-cause set, and the stop request is asserted. -/
def State.HaltLatched (s : State) : Prop :=
  s.lsv.stopRequest = s.lsv.line.isHalt ∧ s.lsv.reason.isSome = s.lsv.line.isHalt
    ∧ (s.lsv.line.isHalt = false → s.lsv.further = 0)
    ∧ ∀ c, s.lsv.reason = some c → setHas s.lsv.further c.code = false

/-- Table 0-6: the capacities of the queues and lists. -/
def State.WithinCapacity (s : State) : Prop :=
  s.trk.queue.length ≤ 12 ∧ s.idu.fifo.length ≤ 8 ∧ s.lnk.forward.length ≤ 8 ∧ s.cmp.commands.length ≤ 4
    ∧ s.cmp.replies.length ≤ 4 ∧ s.dpu.contexts.length ≤ 4 ∧ s.dpu.declarations.length ≤ 8
    ∧ ∀ k, (s.pocket k).contributions.length ≤ 8

/-- R99: at most one context is ACTIVE. -/
def State.OneActive (s : State) : Prop := (s.dpu.contexts.filter (fun c => decide (c.state = .active))).length ≤ 1

/-- R56: a gate is ON exactly while its deflecting count is above 0. -/
def State.GatesFollow (s : State) : Prop := ∀ k, (s.gate k).on = decide (0 < (s.gate k).deflecting)

/-- R126, R143: the line is in STANDBY exactly while no swap has taken place. -/
def State.StandbyUntilSwap (s : State) : Prop := s.lsv.line = .standby ↔ s.tbs.generation = 0

/-- R1, Table 1-1: the prescaler is 1 to 16, and the phase lies below it. -/
def State.PhaseBelow (s : State) : Prop :=
  1 ≤ s.tbs.params.prescaler ∧ s.tbs.params.prescaler ≤ 16 ∧ s.trk.phase < s.tbs.params.prescaler

/-- R8, R79, R100, R126: the numbers given out next, and the generation, stand in their ranges. -/
def State.NumbersInRange (s : State) : Prop :=
  (1 ≤ s.trk.nextSeq ∧ s.trk.nextSeq ≤ 65535) ∧ (1 ≤ s.dpu.nextDeposit ∧ s.dpu.nextDeposit ≤ 65535)
    ∧ (1 ≤ s.pkm.nextBundle ∧ s.pkm.nextBundle ≤ 4294967295) ∧ s.tbs.generation ≤ 65535

/-- R81, R82: a strap order waits only at a COMPLETE pocket, and a strap timer runs only at a STRAPPING one. -/
def State.OrdersInPlace (s : State) : Prop :=
  ∀ k, ((s.pocket k).strapOrder ≠ none → (s.pocket k).state = .complete)
    ∧ ((s.pocket k).strapTimer ≠ none → (s.pocket k).state = .strapping)

/-! ## Where things stand after an event -/

/-- The EVENT kind is in the pending set. -/
def State.pendingHas (s : State) (k : EventKind) : Bool := setHas s.evu.pending k.code

/-- A frame of the part's own, as the transmit slot holds it. -/
def State.ownFrame (s : State) (source : Source) (dest kind corr : Byte) (payload : List Byte) : TxFrame :=
  { source := source, bytes := frameBytes dest s.ownStation kind corr payload }

/-- The bundle record of pocket `k` waits in its slot, or its frame stands in the transmit slot (R95, Table 9-6). -/
def State.Recorded (k : PocketNo) (r : BundleRecord) (t : State) : Prop :=
  (t.pocket k).record = some r ∨ t.lnk.slot = some (t.ownFrame .bundleRecord 0 0x43 0 (r.payload k))

/-- The deposit context `c` waits in RECORD_PENDING in the completion order, or its record's frame stands in the transmit slot
(R110, R118, Table 9-6). -/
def State.CompletedIn (c : Context) (t : State) : Prop :=
  (c ∈ t.dpu.contexts ∧ c.seq ∈ t.dpu.completion) ∨ t.lnk.slot = some (t.ownFrame .depositRecord 0 0x44 0 c.record)

/-- What no event of the belt, the eyes, the straps or the stop touches: the intake, the watch state, the line parameters, the
event enables, the station, the receiver, the command queue, the declarations and the queue of waiting commands. -/
def State.RestKept (t s : State) : Prop :=
  t.idu = s.idu ∧ t.rte = s.rte ∧ t.tbs.params = s.tbs.params ∧ t.evu.enable = s.evu.enable
    ∧ t.lnk.station = s.lnk.station ∧ t.lnk.receiver = s.lnk.receiver ∧ t.cmp.commands = s.cmp.commands
    ∧ t.dpu.declarations = s.dpu.declarations ∧ t.dpu.nextDeposit = s.dpu.nextDeposit ∧ t.pending = s.pending

/-- What an event at one pocket's eyes, strap or record leaves alone besides: the tracker, the gates, the tables, the line
state with its causes and its stop, the ACTIVE and DRAINING deposits, and every pocket's committed count. -/
def State.LineKept (t s : State) : Prop :=
  t.trk = s.trk ∧ t.gdr = s.gdr ∧ t.tbs = s.tbs ∧ t.lsv.line = s.lsv.line ∧ t.lsv.reason = s.lsv.reason
    ∧ t.lsv.further = s.lsv.further ∧ t.lsv.stopRequest = s.lsv.stopRequest ∧ t.lsv.running = s.lsv.running
    ∧ t.lsv.stopScheduled = s.lsv.stopScheduled ∧ t.lsv.idleMark = s.lsv.idleMark
    ∧ t.lsv.idleReached = s.lsv.idleReached
    ∧ t.dpu.contexts.filter Context.counting = s.dpu.contexts.filter Context.counting
    ∧ ∀ k, (t.pocket k).committed = (s.pocket k).committed

/-- The resolved entries of the queue that belong to deposit `d`. -/
def State.notesOf (s : State) (d : Nat) : List Entry :=
  s.trk.queue.filter (fun e => e.resolution.isSome && decide (e.deposit = some d))

/-- The resolved entries of the queue that are orphans: neither cards nor of any deposit. -/
def State.orphansInTransit (s : State) : List Entry :=
  s.trk.queue.filter (fun e => e.resolution.isSome && e.deposit.isNone && !e.isCard)

/-- R114, R110: what becomes of the ACTIVE or DRAINING context `c` of deposit `d` when `n` of its notes are found in doubt: its
counts, or, once a DRAINING deposit has nothing left in transit, its completion. -/
def State.InDoubtBy (n d : Nat) (c : Context) (s t : State) : Prop :=
  (c.state = .active ∨ n < c.inTransit ∨ n = 0 →
    t.countingContext d = some { c with inTransit := c.inTransit - n, inDoubt := c.inDoubt + n })
  ∧ (c.state = .draining → 0 < n → n = c.inTransit → (s.dpu.contexts.map Context.seq).Nodup →
    t.countingContext d = none
      ∧ t.CompletedIn { c with state := .recordPending, inTransit := 0, inDoubt := c.inDoubt + n })

/-- R151, R152: what the stop event leaves, from a state `s` in HALT-STOPPING with RUNNING inactive: HALT-STOPPED, an empty
transit queue, every gate OFF, TRANSIT_FULL clear, every commitment of a resolved entry withdrawn, the notes of each deposit
and the orphans counted in doubt (R114), and the SEEN entries counted as untracked. -/
def State.StoppedFrom (s t : State) : Prop :=
  t.RestKept s ∧ t.lsv.line = .haltStopped ∧ t.lsv.reason = s.lsv.reason ∧ t.lsv.further = s.lsv.further
    ∧ t.lsv.stopRequest = s.lsv.stopRequest ∧ t.trk = { s.trk with queue := [] }
    ∧ (∀ k, t.gate k = { on := false, deflecting := 0 }) ∧ t.held .transitFull = false
    ∧ (∀ k, (t.pocket k).committed
        = (s.pocket k).committed - (s.trk.queue.filter (fun e => e.resolution.isSome && e.pocket == some k)).length)
    ∧ (∀ d c, s.countingContext d = some c → State.InDoubtBy (s.notesOf d).length d c s t)
    ∧ t.evu.counters[Counter.untrackedObjects.index]
        = (if s.trk.queue.all (fun e => e.resolution.isSome) then s.evu.counters[Counter.untrackedObjects.index]
           else min (s.evu.counters[Counter.untrackedObjects.index]
             + (s.trk.queue.filter (fun e => e.resolution.isNone)).length) 65535)
    ∧ t.evu.counters[Counter.orphanInDoubt.index]
        = (if s.orphansInTransit = [] then s.evu.counters[Counter.orphanInDoubt.index]
           else min (s.evu.counters[Counter.orphanInDoubt.index] + s.orphansInTransit.length) 65535)
    ∧ ∀ x : Counter, x ≠ .untrackedObjects → x ≠ .orphanInDoubt → t.evu.counters[x.index] = s.evu.counters[x.index]

/-- A frame from `src` with this payload can come in for the part's own station: the receiver is HUNTING, the part has the
station address `own`, and the frame passes the first line of Table 9-5 and the length bounds of Table 9-2. -/
def State.HearsFrom (s : State) (own src : Byte) (payload : List Byte) : Prop :=
  s.lnk.receiver = .hunting ∧ s.lnk.station = some own.toNat ∧ own ≠ 255 ∧ src ≠ 255 ∧ src ≠ own ∧ payload.length ≤ 244

/-- An object that clears the entry eye now is to get an entry: it is no debris, the line tracks, the queue has room, the
next sequence is free there, and the decision point still lies ahead (R6, R8, R17). -/
def State.GetsEntry (s : State) (lead jam : Position) : Prop :=
  s.trk.eye = .blocked lead jam ∧ s.tbs.params.minLength ≤ (s.trk.position - lead).toNat
    ∧ s.lsv.line ≠ .standby ∧ s.lsv.line ≠ .haltStopped ∧ s.trk.queue.length < 12
    ∧ (∀ e ∈ s.trk.queue, e.seq ≠ s.trk.nextSeq)
    ∧ 32768 ≤ (s.trk.position - (lead + BitVec.ofNat 16 s.tbs.params.dDec)).toNat

/-- R12, Table 1-4: the entry of an object with leading position `lead`. -/
def State.freshEntry (s : State) (lead : Position) (tied : Bool) : Entry :=
  { seq := s.trk.nextSeq, lead := lead, trail := s.trk.position, length := (s.trk.position - lead).toNat,
    long := decide (s.tbs.params.maxLength < (s.trk.position - lead).toNat), tied := tied, state := .seen,
    resolution := none, deposit := none, generation := none, faceValue := none, denomination := none,
    destination := none, pocket := none, prediction := lead + BitVec.ofNat 16 s.tbs.params.dInsp,
    decision := lead + BitVec.ofNat 16 s.tbs.params.dDec, gateOn := none, gateOff := none, windowStart := none,
    windowEnd := none, arrivalSeen := false }

/-- R7, R8, R10, R158: the entry joins the queue as the newest, the eye is CLEAR, the next sequence advances, TRANSIT_FULL
follows the queue, and the feed-idle watch is armed unless the feed idle distance is 0. -/
def State.withFreshEntry (e : Entry) (s : State) : State :=
  { s with
    trk := { s.trk with
      eye := .clear, queue := s.trk.queue ++ [e], nextSeq := if s.trk.nextSeq < 65535 then s.trk.nextSeq + 1 else 1 }
    lsv := { s.lsv with
      holds := if 9 ≤ s.trk.queue.length then s.lsv.holds ||| 2#8 else s.lsv.holds &&& ~~~2#8
      idleMark := if s.tbs.params.feedIdle = 0 then s.lsv.idleMark
                  else some (s.trk.position + BitVec.ofNat 16 s.tbs.params.feedIdle)
      idleReached := s.lsv.idleReached && decide (s.tbs.params.feedIdle = 0)
      idleRaised := s.lsv.idleRaised && decide (s.tbs.params.feedIdle = 0) } }

/-- R14: the queue with TIED set on the entry with this sequence. -/
def tieEntry (seq : Nat) (q : List Entry) : List Entry := q.map (fun e => if e.seq = seq then { e with tied := true } else e)

/-- R15, R16 for pocket 1: an entry takes pocket 1 with the arrival window of the geometry `g` and no gate marks. -/
def Entry.toRejects (g : Geometry) (r : RejectReason) (e : Entry) : Entry :=
  { e with
    destination := some (.reject r), faceValue := none, pocket := some pocket1, gateOn := none, gateOff := none,
    windowStart := some (e.lead + BitVec.ofNat 16 g.p - BitVec.ofNat 16 g.w),
    windowEnd := some (e.lead + BitVec.ofNat 16 (g.p + g.w)), state := .awaitingArrival }

/-- R15, R16 for pockets 2 to 16: an entry takes pocket `k` with the marks of the geometry `g`. -/
def Entry.toPocket (g : Geometry) (k : PocketNo) (dest : Destination) (face : Option Nat) (e : Entry) : Entry :=
  { e with
    destination := some dest, faceValue := face, pocket := some k,
    gateOn := some (e.lead + BitVec.ofNat 16 g.g - BitVec.ofNat 16 g.a),
    gateOff := some (e.trail + BitVec.ofNat 16 (g.g + g.h)),
    windowStart := some (e.lead + BitVec.ofNat 16 g.p - BitVec.ofNat 16 g.w),
    windowEnd := some (e.lead + BitVec.ofNat 16 (g.p + g.w)), state := .routed }

/-- The window end of an entry with leading position `lead`, routed under the geometry `g`, lies ahead (R2, R16). -/
def State.windowAhead (s : State) (g : Geometry) (lead : Position) : Prop :=
  32768 ≤ (s.trk.position - (lead + BitVec.ofNat 16 (g.p + g.w) + 1)).toNat

/-- Every mark of an entry with leading position `lead`, routed under the geometry `g` to a pocket with a gate, lies ahead. -/
def State.marksAhead (s : State) (g : Geometry) (lead : Position) : Prop :=
  32768 ≤ (s.trk.position - (lead + BitVec.ofNat 16 g.g - BitVec.ofNat 16 g.a)).toNat ∧ s.windowAhead g lead

/-! ## Routing (chapter 3) -/

/-- R50: pocket 2 takes a note of deposit `d`: it is OPEN, below its limit, and its list holds `d` or fewer than 8. -/
def Pocket.Takes (d : Nat) (p : Pocket) : Prop :=
  p.state = .open ∧ p.committed + p.held < p.limit
    ∧ ((∃ x ∈ p.contributions, x.deposit = d) ∨ p.contributions.length < 8)

/-- R74: a sort pocket is eligible for deposit `d`. -/
def Pocket.TakesForClass (d : Nat) (p : Pocket) : Prop :=
  p.Takes d ∧ (p.isPure = false ∨ p.contributions = [] ∨ p.contributions.map Contribution.deposit = [d])

/-- R48: a rule matches a note of denomination index `i`. -/
def Rule.Fits (i : DenomNo) (n : NoteContents) (r : Rule) : Prop :=
  setHas r.denominations i.val = true ∧ setHas r.series n.series.val = true ∧ setHas r.fitness n.fitness.code = true
    ∧ setHas r.orientations n.orientation.code = true

/-- R37, R51: the entry with a sequence, counted under deposit `d`, is rejected for the reason `r`: it is committed to pocket
1, whose geometry is `g`. -/
def State.rejected (seq d : Nat) (g : Geometry) (r : RejectReason) (s : State) : State :=
  { s.commitReject d with
    trk := { s.trk with queue := s.trk.queue.map (fun x => if x.seq = seq then x.toRejects g r else x) } }

/-- R37, R49, R50: the entry is committed to pocket `k`, a pocket with a gate, whose geometry is `g`. -/
def State.placed (seq d : Nat) (g : Geometry) (k : PocketNo) (dest : Destination) (face : Option Nat) (s : State) : State :=
  { s.commit k d with
    trk := { s.trk with queue := s.trk.queue.map (fun x => if x.seq = seq then x.toPocket g k dest face else x) } }

/-- R50: where a HOLD leaves the entry: in pocket 2, or, when pocket 2 cannot take it, rejected with LOOSE_OVERFLOW. `g1` is
the geometry of pocket 1. -/
def State.HeldFrom (s : State) (seq : Nat) (e : Entry) (g1 : Geometry) (t : State) : Prop :=
  ((s.pocket pocket2).Takes e.depositKey → ∀ g, s.tbs.params.geometry[pocket2] = some g → s.marksAhead g e.lead →
    t = s.placed seq e.depositKey g pocket2 .hold none)
  ∧ (¬ (s.pocket pocket2).Takes e.depositKey →
    t = (s.haltCause .looseOverflow).rejected seq e.depositKey g1 .holdUnavailable)

/-- R49, R74, R77: class `c` found no eligible pocket: it joins the blocked-class set, with CLASS_BLOCKED held and, as it
joins, raised (log entry 27). -/
def State.classFull (c : ClassNo) (s : State) : State :=
  if setHas s.pkm.blocked c.val = true then s
  else State.raise .classBlocked (State.hold .classBlocked
    { s with pkm := { s.pkm with blocked := s.pkm.blocked ||| BitVec.twoPow 24 c.val } })

/-- R43: what the watch list makes of `s` at the note `n` of the entry `e`: nothing where no entry of the list matches; else
every matching entry's hit count advances, the last-hit record names the lowest of them, and the hit is counted and raised. -/
def State.WatchLeaves (s : State) (e : Entry) (n : NoteContents) (u : State) : Prop :=
  ((∀ j : Fin 32, s.tbs.active.watch[j].isMatch n = false) → u = s)
  ∧ ∀ i : Fin 32, s.tbs.active.watch[i].isMatch n = true → (∀ j, j < i → s.tbs.active.watch[j].isMatch n = false) →
    u = State.raise .watchHit (State.bump .watchHits { s with rte := {
      hits := Vector.ofFn (fun j : Fin 32 =>
        if s.tbs.active.watch[j].isMatch n then min (s.rte.hits[j] + 1) 255 else s.rte.hits[j])
      lastHit := some { index := i, serial := n.serial, deposit := e.deposit.getD 0, seq := e.seq } } })

/-! ## Gates -/

/-- R56: a gate with one entry more in DEFLECTING: ON. -/
def Gate.plusOne (g : Gate) : Gate := { on := true, deflecting := g.deflecting + 1 }

/-- R56: a gate with one entry less in DEFLECTING: ON while its count stays above 0. -/
def Gate.minusOne (g : Gate) : Gate := { on := decide (0 < g.deflecting - 1), deflecting := g.deflecting - 1 }

/-! ## Deposits and pockets -/

/-- R113, R116, R117: `x` is the context `c` with one delivery of the entry `e` counted, by the entry's destination. -/
def Context.Delivered (e : Entry) (c x : Context) : Prop :=
  (∃ cls i f, e.destination = some (.cls cls) ∧ e.denomination = some i ∧ e.faceValue = some f ∧ x = { c with
    inTransit := c.inTransit - 1, totalCredited := c.totalCredited + 1,
    credited := c.credited.set i (if c.credited[i] < 65535 then c.credited[i] + 1 else c.credited[i]),
    countSaturated := c.countSaturated || decide (65535 ≤ c.credited[i]),
    value := (creditValue c.value c.valueSaturated f).1,
    valueSaturated := (creditValue c.value c.valueSaturated f).2 })
  ∨ (e.destination = some .hold ∧ x = { c with inTransit := c.inTransit - 1, held := c.held + 1 })
  ∨ (∃ r i, e.destination = some (.reject r) ∧ r.countIndex = some i ∧ x = { c with
    inTransit := c.inTransit - 1, rejects := c.rejects.set i (c.rejects[i] + 1) })

/-- Table 4-2: one committed note of deposit `d` becomes a delivered one in a contribution list. -/
def deliveredIn (d : Nat) (l : List Contribution) : List Contribution :=
  l.map (fun c => if c.deposit = d then { c with committed := c.committed - 1, delivered := c.delivered + 1 } else c)

/-- R91: `q` is the sort pocket `p`, without notes, after it has taken the assignment that the bank `b` gives pocket `k`. -/
def Pocket.Took (b : Bank) (k : PocketNo) (p q : Pocket) : Prop :=
  ∃ limit state, q = { p with assignment := b.assignmentFor k, changeover := false, limit := limit, state := state }
    ∧ (b.assignmentFor k = none → state = .disabled ∧ limit = 0)
    ∧ ∀ a, b.assignmentFor k = some a →
      limit = Pocket.limitFor { p with assignment := some a }
        ∧ (p.unaccounted = true → state = .unaccounted)
        ∧ (p.unaccounted = false → p.committed + p.held < limit → state = .open)

/-- R105, steps 3 and 4: a context as a card opens it. -/
def Context.opened (seq : Nat) (card : Option Nat) (found : Option Declaration) : Context :=
  { state := .active, seq := seq, card := card, declaration := found, openGen := 0, closeGen := none, endKind := none,
    assigned := 0, inTransit := 0, credited := Vector.replicate 16 0, totalCredited := 0, countSaturated := false,
    value := List.replicate 14 0, valueSaturated := false, held := 0, rejects := Vector.replicate 13 0, inDoubt := 0 }

/-! ## Sums -/

/-- R115: the sum of a deposit's account. -/
def Context.Balanced (c : Context) : Prop :=
  c.assigned = c.totalCredited + c.held + c.rejects.toList.sum + c.inDoubt + c.inTransit

/-- R111 to R115: every deposit's account is balanced and, while the deposit takes notes, its in-transit count is the number of
the queue's entries that belong to it. With it stands what makes it last: sequences are distinct, a SEEN entry belongs to no
deposit yet, and an entry of a deposit has a destination that R113 counts. -/
def State.AccountsHold (s : State) : Prop :=
  (s.trk.queue.map Entry.seq).Nodup ∧ (s.dpu.contexts.map Context.seq).Nodup
    ∧ (∀ e ∈ s.trk.queue, e.state = .seen → e.deposit = none)
    ∧ (∀ e ∈ s.trk.queue, e.deposit ≠ none →
        (∃ c, e.destination = some (.cls c)) ∨ e.destination = some .hold
          ∨ ∃ r i, e.destination = some (.reject r) ∧ r.countIndex = some i)
    ∧ ∀ c ∈ s.dpu.contexts, c.Balanced ∧ c.inTransit =
        (if c.counting then (s.trk.queue.filter (fun e => decide (e.deposit = some c.seq))).length else 0)

/-- The committed notes of a pocket are those of its contributions and its unlisted ones, the held notes likewise, and no
deposit is listed twice (Table 5-2). -/
def Pocket.Balanced (p : Pocket) : Prop :=
  p.committed = (p.contributions.map Contribution.committed).sum + p.unlistedCommitted
    ∧ p.held = (p.contributions.map Contribution.delivered).sum + p.unlistedDelivered
    ∧ (p.contributions.map Contribution.deposit).Nodup

/-- The sum of the counts in a bundle record's contribution list. -/
def BundleRecord.listedSum (r : BundleRecord) : Nat := (r.pairs.map Prod.snd).sum

end Sys2Proof.Machine
end

