-- ==== Sys2Proof/Certificates/Slice0/Obligations.lean ====
section
/-! DEFINITION. The statements for the provers. Where a statement says what an event leaves, it either gives the whole next
state, or a state that the next state `AgreesWith`: equal in everything that the end of an event leaves alone
(`State.steady`). -/

open Sys2Proof Sys2Proof.Machine

/-! ## The machine -/

/-- Log entry 2: a step runs the command at the front on the state with the queue's rest; with an empty queue it idles. -/
def Obligations.StepRunsFront : Prop :=
  ∀ (c : Instr) (q : List Instr) (s : State),
    step (s.withPending (c :: q)) = exec c (s.withPending q) ∧ step (s.withPending []) = .next (s.withPending [])

/-- Every command is executed in every state: one whose event is not due leaves the state as it is, which is the model's choice
(log entry 1). None touches the queue of waiting commands, which is the model's own (log entry 2). -/
def Obligations.EveryCommandCompletes : Prop :=
  ∀ (c : Instr) (s : State), ∃ t, exec c s = .next t ∧ t.pending = s.pending

/-- Tables 1-11, 2-1, 3-2, 4-1, 6-1, 8-1, 9-1, 10-1, 11-1: what RESET leaves, from every state. -/
def Obligations.ResetLeaves : Prop :=
  ∀ (straps : BitVec 6) (eye run : Bool) (arrival empty stack : BitVec 16) (s : State),
    ∃ t, exec (.reset straps eye run arrival empty stack) s = .next t
      ∧ t.trk = { position := 0, phase := 0, eye := if eye then .void else .clear, queue := [], nextSeq := 1 }
      ∧ t.idu = { fifo := [], overrun := false }
      ∧ t.rte = { hits := Vector.replicate 32 0, lastHit := none }
      ∧ t.gdr.gates = Vector.replicate 16 { on := false, deflecting := 0 }
      ∧ t.dpu = { contexts := [], completion := [], declarations := [], nextDeposit := 1 }
      ∧ t.tbs.generation = 0 ∧ t.tbs.swapPending = false ∧ t.tbs.active = Bank.blank ∧ t.tbs.shadow = Bank.blank
      ∧ t.tbs.params = LineParameters.afterReset
      ∧ t.lsv = { line := .standby, reason := none, further := 0, holds := 1, stopRequest := false, running := run,
                  stopScheduled := false, idleMark := none, idleReached := false, idleRaised := false }
      ∧ t.feedHoldOutput = true
      ∧ t.lnk = { station := if 1 ≤ straps.toNat ∧ straps.toNat ≤ 62 then some straps.toNat else none,
                  receiver := .hunting, forward := [], slot := none }
      ∧ t.cmp = { commands := [], replies := [] }
      ∧ t.evu = { pending := 0, enable := 0, owed := false, frameNumber := 0, attn := false,
                  counters := Vector.replicate 13 0 }
      ∧ t.pkm.nextBundle = 1 ∧ t.pkm.blocked = 0
      ∧ ∀ k, t.pocket k = { Pocket.afterReset with
          unaccounted := setHas empty k.val, arrivalEye := setHas arrival k.val, emptyEye := setHas empty k.val,
          stackEye := setHas stack k.val }

/-- The invariants of this file hold at `State.reset` and after every RESET. -/
def Obligations.InvariantsAtReset : Prop :=
  ∀ t : State,
    (t = State.reset ∨ ∃ straps eye run arrival empty stack s,
        exec (.reset straps eye run arrival empty stack) s = .next t) →
      t.Quiet ∧ t.AttnFollows ∧ t.LineHeld ∧ t.HaltLatched ∧ t.StandbyUntilSwap ∧ t.WithinCapacity ∧ t.OneActive
        ∧ t.GatesFollow ∧ t.PhaseBelow ∧ t.NumbersInRange ∧ t.OrdersInPlace ∧ t.AccountsHold

/-- Between events nothing is left undone: the held-back orders and removals (R81, R85), LOOSE_NEAR_FULL (R80), FEED_IDLE
(R158), the transmit slot (R169), RECORD_BACKLOG (R170). -/
def Obligations.QuietKept : Prop := ∀ s t : State, s.Quiet → step s = .next t → t.Quiet

/-- What the line state, the generation and the event sets imply about the latches: R143, R148, R149, R154, R156, R186,
R187. -/
def Obligations.LatchesKept : Prop :=
  ∀ s t : State, step s = .next t →
    (s.LineHeld → t.LineHeld) ∧ (s.HaltLatched → t.HaltLatched) ∧ (s.StandbyUntilSwap → t.StandbyUntilSwap)
      ∧ (s.AttnFollows → t.AttnFollows)

/-- Table 0-6, R1, R8, R56, R79, R81, R82, R99, R100: the bounds, the gates and the strap slots. -/
def Obligations.BoundsKept : Prop :=
  ∀ s t : State, step s = .next t →
    (s.WithinCapacity → t.WithinCapacity) ∧ (s.OneActive → t.OneActive) ∧ (s.GatesFollow → t.GatesFollow)
      ∧ (s.PhaseBelow → t.PhaseBelow) ∧ (s.NumbersInRange → t.NumbersInRange) ∧ (s.OrdersInPlace → t.OrdersInPlace)

/-! ## Latches every block uses -/

/-- R185 to R187: what raising an event kind does to the pending set, to ATTN and to the EVENT-owed flag, and to nothing
else. -/
def Obligations.RaiseLatches : Prop :=
  ∀ (k : EventKind) (s : State), s.AttnFollows →
    s.raise k = { s with evu := { s.evu with
      pending := s.evu.pending ||| BitVec.twoPow 16 k.code
      attn := decide ((s.evu.pending ||| BitVec.twoPow 16 k.code) &&& s.evu.enable ≠ 0)
      owed := s.evu.owed || (!setHas s.evu.pending k.code && setHas s.evu.enable k.code) } }

/-- R190: a line counter takes 1 more and stands at 65535; no other counter and no other state changes. R156: setting and
clearing a feed-hold reason touches that member alone, and FEED_HOLD is active exactly while the set is not empty. -/
def Obligations.CountersAndReasons : Prop :=
  (∀ (c : Counter) (s : State),
    (s.bump c).evu.counters[c.index] = (if s.evu.counters[c.index] < 65535 then s.evu.counters[c.index] + 1 else 65535)
      ∧ (∀ d : Counter, d ≠ c → (s.bump c).evu.counters[d.index] = s.evu.counters[d.index])
      ∧ (s.bump c).evu = { s.evu with counters := (s.bump c).evu.counters } ∧ { s.bump c with evu := s.evu } = s)
  ∧ ∀ (r : FeedReason) (s : State),
    ((s.hold r).held r = true ∧ ∀ o, o ≠ r → (s.hold r).held o = s.held o)
      ∧ ((s.release r).held r = false ∧ ∀ o, o ≠ r → (s.release r).held o = s.held o)
      ∧ (s.feedHoldOutput = true ↔ ∃ o, s.held o = true)

/-- R148, R149: what LSV does with a halt cause, by the line state. -/
def Obligations.HaltCauseTaken : Prop :=
  ∀ (c : HaltCause) (s : State),
    (s.lsv.line = .standby → s.haltCause c = s)
      ∧ (s.lsv.line = .ready ∨ s.lsv.line = .run ∨ s.lsv.line = .drain →
          s.haltCause c = State.raise .halted
            { s with lsv := { s.lsv with
                line := .haltStopping
                reason := some c
                further := 0
                holds := s.lsv.holds ||| BitVec.twoPow 8 FeedReason.lineNotRun.code
                stopRequest := true
                stopScheduled := !s.lsv.running } })
      ∧ (s.lsv.line = .haltStopping ∨ s.lsv.line = .haltStopped →
          s.haltCause c =
            if s.lsv.reason = some c ∨ setHas s.lsv.further c.code = true then s
            else { s with lsv := { s.lsv with further := s.lsv.further ||| BitVec.twoPow 8 c.code } })

/-! ## The belt and the entry eye (chapter 1) -/

/-- R1: an encoder pulse. -/
def Obligations.EncoderPulse : Prop :=
  ∀ s : State, s.PhaseBelow →
    exec .encoderPulse s = .next
      (if s.trk.phase + 1 = s.tbs.params.prescaler then
        { s with trk := { s.trk with phase := 0, position := s.trk.position + 1 } }
      else { s with trk := { s.trk with phase := s.trk.phase + 1 } })

/-- R4: a blocking edge of EYE_ENTRY. R61: a clearing edge of an arrival eye. R6, Table 1-3, lines 1 to 3: the objects that
get no entry. -/
def Obligations.EyeEdges : Prop :=
  ∀ s : State, s.Quiet →
    exec .entryEyeBlockingEdge s = .next { s with trk := { s.trk with
        eye := .blocked s.trk.position (s.trk.position + BitVec.ofNat 16 (4 * s.tbs.params.maxLength)) } }
    ∧ (∀ k, exec (.arrivalEyeClearingEdge k) s = .next { s with pkm := { s.pkm with
          pockets := s.pkm.pockets.set k { s.pkm.pockets[k] with arrivalEye := false } } })
    ∧ (s.trk.eye = .void →
      exec .entryEyeClearingEdge s = .next (State.bump .untrackedObjects { s with trk := { s.trk with eye := .clear } }))
    ∧ ∀ lead jam, s.trk.eye = .blocked lead jam →
      ((s.trk.position - lead).toNat < s.tbs.params.minLength →
        exec .entryEyeClearingEdge s = .next (State.bump .debris { s with trk := { s.trk with eye := .clear } }))
      ∧ (s.tbs.params.minLength ≤ (s.trk.position - lead).toNat →
          s.lsv.line = .standby ∨ s.lsv.line = .haltStopped →
        exec .entryEyeClearingEdge s
          = .next (State.bump .untrackedObjects { s with trk := { s.trk with eye := .clear } }))

/-- R11: an object that clears with 12 entries in the queue. R5: the jam mark, in each state of the eye; that it acts at every
position that has reached the mark, not only at the advance of R17, is the model's choice (log entry 6), and that it changes
nothing while the eye is not BLOCKED is log entry 1. -/
def Obligations.OverflowAndJam : Prop :=
  ∀ s : State,
    (∀ lead jam, s.trk.eye = .blocked lead jam → s.tbs.params.minLength ≤ (s.trk.position - lead).toNat →
      s.lsv.line ≠ .standby → s.lsv.line ≠ .haltStopped → 12 ≤ s.trk.queue.length →
      ∃ t, exec .entryEyeClearingEdge s = .next t
        ∧ t.AgreesWith ((State.bump .untrackedObjects { s with trk := { s.trk with eye := .clear } }).haltCause
            .transitOverflow))
    ∧ (∀ lead jam, s.trk.eye = .blocked lead jam → (s.trk.position - jam).toNat < 32768 →
      ∃ t, exec .jamMarkExpiry s = .next t
        ∧ t.AgreesWith (State.haltCause .jamAtEntry { s with trk := { s.trk with eye := .void } }))
    ∧ (s.trk.eye = .clear ∨ s.trk.eye = .void → exec .jamMarkExpiry s = .next s)

/-- R7, R8, R10, R12, R158: an object that ties with no other gets an entry. -/
def Obligations.EntryCreated : Prop :=
  ∀ (s : State) (lead jam : Position), s.Quiet → s.GetsEntry lead jam →
    (∀ q, s.trk.queue.getLast? = some q → s.tbs.params.minGap ≤ (lead - q.trail).toNat) →
    exec .entryEyeClearingEdge s = .next (s.withFreshEntry (s.freshEntry lead false))

/-- R13, R14: an object that ties with the newest entry. -/
def Obligations.EntryTied : Prop :=
  ∀ (s : State) (lead jam : Position) (q : Entry), s.Quiet → s.GetsEntry lead jam →
    s.trk.queue.getLast? = some q → (lead - q.trail).toNat < s.tbs.params.minGap →
    ∀ u : State, u = s.withFreshEntry (s.freshEntry lead true) →
    (q.state ≠ .routed ∨ q.tied = true →
      exec .entryEyeClearingEdge s = .next { u with trk := { u.trk with queue := tieEntry q.seq u.trk.queue } })
    ∧ (q.state = .routed → q.tied = false →
        ∃ t, exec .entryEyeClearingEdge s = .next t
          ∧ t.AgreesWith (State.replan q.seq { u with trk := { u.trk with queue := tieEntry q.seq u.trk.queue } }))

/-- R54: re-planning: the withdrawal, the commitment to pocket 1, and the entry's new destination and marks; nothing else
changes. -/
def Obligations.EntryReplanned : Prop :=
  ∀ (s : State) (seq : Nat) (e : Entry) (k : PocketNo) (g : Geometry), s.entry seq = some e → e.pocket = some k →
    s.tbs.params.geometry[pocket1] = some g → s.windowAhead g e.lead →
    s.replan seq = { (s.withdraw k e.depositKey).commitReject e.depositKey with
      trk := { s.trk with queue := s.trk.queue.map (fun x => if x.seq = seq then x.toRejects g .tied else x) } }

/-- R51, R75: a REJECT destination is always committed to pocket 1; without room pocket 1 goes to FAULT and LSV is given
LOOSE_OVERFLOW. -/
def Obligations.RejectAlwaysCommitted : Prop :=
  ∀ (d : Nat) (s : State),
    ((s.commitReject d).pocket pocket1).committed = (s.pocket pocket1).committed + 1
      ∧ ((s.commitReject d).pocket pocket1).held = (s.pocket pocket1).held
      ∧ (∀ k, k ≠ pocket1 → (s.commitReject d).pocket k = s.pocket k)
      ∧ ((s.pocket pocket1).state ≠ .awaitingRemoval →
          (s.pocket pocket1).committed + (s.pocket pocket1).held < (s.pocket pocket1).limit →
          ((∃ c ∈ (s.pocket pocket1).contributions, c.deposit = d) ∨ (s.pocket pocket1).contributions.length < 8) →
          (s.commitReject d).lsv = s.lsv
            ∧ ((s.pocket pocket1).state = .unaccounted ↔ ((s.commitReject d).pocket pocket1).state = .fault
                ∧ (s.pocket pocket1).state ≠ .fault))
      ∧ ((s.pocket pocket1).state = .awaitingRemoval
            ∨ (s.pocket pocket1).limit ≤ (s.pocket pocket1).committed + (s.pocket pocket1).held
            ∨ ((∀ c ∈ (s.pocket pocket1).contributions, c.deposit ≠ d) ∧ 8 ≤ (s.pocket pocket1).contributions.length) →
          (s.commitReject d).lsv = (s.haltCause .looseOverflow).lsv
            ∧ ((s.commitReject d).pocket pocket1).state = .fault)

/-! ## Identification (chapter 2) and routing (chapter 3) -/

/-- R29, R30, R39, R40, R46, R51, R111: the decision point of the oldest SEEN entry, which counts as an orphan when no deposit
is ACTIVE. That it is taken at every position that has reached the point, not only at the advance of R17, is the model's
choice (log entry 6). -/
def Obligations.DecisionPointReached : Prop :=
  ∀ (s : State) (seq : Nat) (e : Entry) (g : Geometry), s.entry seq = some e → e.state = .seen →
    (s.trk.position - e.decision).toNat < 32768 → s.olderSeen seq = [] →
    s.tbs.params.geometry[pocket1] = some g → s.windowAhead g e.lead →
    ∃ t, exec (.decisionPointExpiry seq) s = .next t ∧ t.RestKept s ∧ t.gdr = s.gdr ∧ t.tbs = s.tbs
      ∧ (∀ k, k ≠ pocket1 → (t.pocket k).committed = (s.pocket k).committed)
      ∧ t.trk = { s.trk with queue := s.trk.queue.map (fun x => if x.seq = seq then
          Entry.toRejects g (if e.tied then .tied else if e.long then .long else .unidentified)
            { x with
              resolution := some .unidentified, denomination := none, deposit := s.activeContext.map Context.seq,
              generation := some s.tbs.generation } else x) }
      ∧ (t.pocket pocket1).committed = (s.pocket pocket1).committed + 1
      ∧ (∀ c, s.activeContext = some c → t.evu.counters = s.evu.counters
          ∧ t.countingContext c.seq = (s.countingContext c.seq).map (fun x =>
              { x with assigned := x.assigned + 1, inTransit := x.inTransit + 1 }))
      ∧ (s.activeContext = none → t.evu.counters = (s.bump .orphans).evu.counters)

/-- R23, R25 to R28, R30, R31, R33: the take of a note frame: the older SEEN entries are resolved UNIDENTIFIED, then the entry it
describes is resolved from it, assigned to the ACTIVE deposit, and routed; a separator card makes the deposit boundary (R105)
and the pending swap first. Queue entries are numbered apart (R8). -/
def Obligations.FrameTaken : Prop :=
  ∀ (s : State) (r : RawNote) (rest : List RawNote), s.idu.fifo = r :: rest →
    ((∀ x ∈ s.trk.queue, ¬ (x.state = .seen ∧ separation r.edge x.prediction ≤ s.tbs.params.tolerance)) → s.Quiet →
      exec .intakeTake s = .next (State.bump
        (if ∃ x ∈ s.trk.queue, x.resolution = some .unidentified
            ∧ separation r.edge x.prediction ≤ s.tbs.params.tolerance then .lateFrames else .phantomFrames)
        { s with idu := { s.idu with fifo := rest } }))
    ∧ ∀ older e newer n, s.trk.queue = older ++ e :: newer → (s.trk.queue.map Entry.seq).Nodup → e.state = .seen →
        separation r.edge e.prediction ≤ s.tbs.params.tolerance →
        (∀ x ∈ older, ¬ (x.state = .seen ∧ separation r.edge x.prediction ≤ s.tbs.params.tolerance)) →
        n = interpretNote r →
        ∃ t, exec .intakeTake s = .next t ∧ t.idu = { s.idu with fifo := rest }
          ∧ t.trk = { s.trk with queue := t.trk.queue } ∧ t.tbs.params = s.tbs.params ∧ t.evu.enable = s.evu.enable
          ∧ t.cmp.commands = s.cmp.commands
          ∧ (∀ x, (x ∈ t.trk.queue ∧ x.state = .seen) ↔ (x ∈ newer ∧ x.state = .seen))
          ∧ (∀ x ∈ t.trk.queue, x.seq = e.seq → x.resolution = some (.frame n) ∧ x.denomination = n.denomination)
          ∧ (∀ x ∈ t.trk.queue, ∀ y ∈ older, y.state = .seen → x.seq = y.seq → x.resolution = some .unidentified)
          ∧ ((∀ k g, s.tbs.params.geometry[(k : PocketNo)] = some g → s.windowAhead g e.lead) →
              e.seq ∈ t.trk.queue.map Entry.seq)
          ∧ (n.kind ≠ .separator →
              (∀ x ∈ t.trk.queue, x.seq = e.seq →
                x.deposit = s.activeContext.map Context.seq ∧ x.generation = some s.tbs.generation)
              ∧ t.activeContext.map Context.assigned = s.activeContext.map (fun c =>
                  c.assigned + (older.filter (fun x => decide (x.state = .seen))).length + 1)
              ∧ ((∀ x ∈ older, x.state ≠ .seen) → ∀ u : State, u = { s with
                    idu := { s.idu with fifo := rest }
                    trk := { s.trk with queue := s.trk.queue.map (fun x : Entry => if x.seq = e.seq then { x with
                      resolution := some (.frame n), denomination := n.denomination,
                      deposit := s.activeContext.map Context.seq, generation := some s.tbs.generation } else x) }
                    dpu := { s.dpu with contexts := s.dpu.contexts.map (fun c : Context =>
                      if c.counting = true ∧ s.activeContext.map Context.seq = some c.seq then
                        { c with assigned := c.assigned + 1, inTransit := c.inTransit + 1 } else c) } } →
                  t.AgreesWith (u.route e.seq)))
          ∧ (n.kind = .separator → (∀ x ∈ older, x.state ≠ .seen) → ∀ g b, s.tbs.params.geometry[pocket1] = some g →
              s.windowAhead g e.lead → b = s.boundary n.card →
              t.tbs = (b.swappedIfPending).tbs ∧ (s.tbs.swapPending = true → t.pendingHas .bankSwapped = true)
              ∧ t.trk = { s.trk with queue := s.trk.queue.map (fun x => if x.seq = e.seq then
                  Entry.toRejects g .card { x with
                    resolution := some (.frame n), denomination := n.denomination, deposit := none,
                    generation := some t.tbs.generation } else x) }
              ∧ t.gdr = s.gdr ∧ t.dpu.declarations = b.dpu.declarations ∧ t.dpu.nextDeposit = b.dpu.nextDeposit
              ∧ t.dpu.contexts.filter Context.counting = (b.dpu.contexts.filter Context.counting).map (fun c =>
                  if b.activeContext.map Context.seq = some c.seq then { c with openGen := t.tbs.generation } else c)
              ∧ (t.pocket pocket1).committed = (s.pocket pocket1).committed + 1
              ∧ ∀ k, k ≠ pocket1 → (t.pocket k).committed = (s.pocket k).committed)

/-- R42: when a watch-list entry matches a note; an unused entry matches none, nor does any entry a note of no serial. -/
def Obligations.WatchEntryMatches : Prop :=
  ∀ (w : WatchEntry) (n : NoteContents), w.length.toNat ≤ 12 → w.pattern.length = 12 →
    (w.isMatch n = true ↔
      w.length ≠ 0 ∧ n.serial.length = w.length.toNat
        ∧ (∀ i, i < w.length.toNat → setHas w.wildcards i = false → n.serial[i]? = w.pattern[i]?)
        ∧ (w.denomination = 255 ∨ ∃ d, n.denomination = some d ∧ d.val = w.denomination.toNat))

/-- R37, Table 3-1, R38 to R43, R45 to R51, R74, R77, R16: routing. A genuine note that no earlier step decides goes to the first
eligible pocket of the class of the first matching rule; and every other outcome of a note frame, step by step: the rejects of
steps 1 to 6, HOLD for a SUSPECT, the watch list with its hits, the rejects of steps 9 to 12, and the rule's HOLD, REJECT,
NO_RULE or CLASS_FULL. That CLASS_BLOCKED is raised only by a class that joins the blocked set is log entry 27. -/
def Obligations.NoteRouted : Prop :=
  (∀ (s : State) (seq d : Nat) (e : Entry) (n : NoteContents) (i : DenomNo) (before after : List Rule) (rule : Rule)
    (c : ClassNo) (passed behindIt : List PocketNo) (k : PocketNo) (g : Geometry),
    s.entry seq = some e → e.resolution = some (.frame n) → e.deposit = some d → e.tied = false → e.long = false →
    n.kind = .note → n.fault = false → n.verdict = .genuine → n.denomination = some i →
    (∀ j : Fin 32, s.tbs.active.watch[j].isMatch n = false) → s.lsv.line.isHalt = false →
    s.tbs.active.denominations[i].enabled = true →
    s.tbs.active.rules.toList = before ++ rule :: after → (∀ x ∈ before, ¬ x.Fits i n) → rule.Fits i n →
    rule.result = .cls c → s.tbs.active.classes[c].pockets = passed ++ k :: behindIt →
    (∀ x ∈ passed, ¬ (s.pocket x).TakesForClass d) → (s.pocket k).TakesForClass d →
    k ≠ pocket1 → s.tbs.params.geometry[k] = some g → s.marksAhead g e.lead →
    s.route seq = s.placed seq d g k (.cls c) (some s.tbs.active.denominations[i].face))
  ∧ ∀ (s u : State) (seq : Nat) (e : Entry) (n : NoteContents) (g : Geometry),
    s.entry seq = some e → e.resolution = some (.frame n) → s.tbs.params.geometry[pocket1] = some g →
    s.windowAhead g e.lead → u = (if e.deposit = none ∧ n.kind ≠ .separator then s.bump .orphans else s) →
    (n.kind = .separator → s.route seq = u.rejected seq e.depositKey g .card)
    ∧ (n.kind ≠ .separator →
      (e.tied = true → s.route seq = u.rejected seq e.depositKey g .tied)
      ∧ (e.tied = false → e.long = true → s.route seq = u.rejected seq e.depositKey g .long)
      ∧ (e.tied = false → e.long = false →
        (n.kind = .double → s.route seq = u.rejected seq e.depositKey g .double)
        ∧ (n.kind = .foreign → s.route seq = u.rejected seq e.depositKey g .foreign)
        ∧ (n.kind = .note → n.fault = true → s.route seq = u.rejected seq e.depositKey g .inspectionFault)
        ∧ (n.kind = .note → n.fault = false →
          (n.verdict = .suspect → u.HeldFrom seq e g (s.route seq))
          ∧ (n.verdict ≠ .suspect → ∀ w, u.WatchLeaves e n w →
            ((∃ j : Fin 32, s.tbs.active.watch[j].isMatch n = true ∧ s.tbs.active.watch[j].action = 0) →
              w.HeldFrom seq e g (s.route seq))
            ∧ ((∀ j : Fin 32, s.tbs.active.watch[j].isMatch n = true → s.tbs.active.watch[j].action ≠ 0) →
              (s.lsv.line.isHalt = true → s.route seq = w.rejected seq e.depositKey g .halted)
              ∧ (s.lsv.line.isHalt = false →
                (e.deposit = none → s.route seq = w.rejected seq e.depositKey g .orphan)
                ∧ (e.deposit ≠ none →
                  (n.verdict = .unverified → s.route seq = w.rejected seq e.depositKey g .unverified)
                  ∧ (n.verdict = .genuine →
                    ((∀ i, n.denomination = some i → s.tbs.active.denominations[i].enabled = false) →
                      s.route seq = w.rejected seq e.depositKey g .unknownDenomination)
                    ∧ ∀ i, n.denomination = some i → s.tbs.active.denominations[i].enabled = true →
                      ((∀ x ∈ s.tbs.active.rules.toList, ¬ x.Fits i n) →
                        s.route seq = w.rejected seq e.depositKey g .noRule)
                      ∧ ∀ before rule after, s.tbs.active.rules.toList = before ++ rule :: after →
                        (∀ x ∈ before, ¬ x.Fits i n) → rule.Fits i n →
                        (rule.result = .reject → s.route seq = w.rejected seq e.depositKey g .ruleReject)
                        ∧ (rule.result = .hold → w.HeldFrom seq e g (s.route seq))
                        ∧ ∀ c, rule.result = .cls c →
                          (∀ k ∈ s.tbs.active.classes[c].pockets, ¬ (s.pocket k).TakesForClass e.depositKey) →
                          s.route seq = (w.classFull c).rejected seq e.depositKey g .classFull))))))))

/-! ## Gates and delivery (chapter 4) -/

/-- R57, R58: gate on and gate off. That each acts at every position that has reached its mark, not only at the advance of R17,
is the model's choice (log entry 6), and that it changes nothing in another state of the entry is log entry 1. -/
def Obligations.GateMarks : Prop :=
  ∀ (s : State) (seq : Nat) (e : Entry) (k : PocketNo) (m : Position), s.entry seq = some e → e.pocket = some k →
    (e.gateOn = some m → e.state = .routed → (s.trk.position - m).toNat < 32768 →
      exec (.gateOnExpiry seq) s = .next { s with
        trk := { s.trk with queue := s.trk.queue.map (fun x => if x.seq = seq then { x with state := .deflecting } else x) }
        gdr := { gates := s.gdr.gates.set k s.gdr.gates[k].plusOne } })
    ∧ (e.gateOff = some m → e.state = .deflecting → (s.trk.position - m).toNat < 32768 →
      exec (.gateOffExpiry seq) s = .next { s with
        trk := { s.trk with
          queue := s.trk.queue.map (fun x => if x.seq = seq then { x with state := .awaitingArrival } else x) }
        gdr := { gates := s.gdr.gates.set k s.gdr.gates[k].minusOne } })
    ∧ (e.state ≠ .routed → exec (.gateOnExpiry seq) s = .next s)
    ∧ (e.state ≠ .deflecting → exec (.gateOffExpiry seq) s = .next s)

/-- R66, R110, R114: a missing arrival, which completes a DRAINING deposit that had nothing else in transit. That it is found at
every position past the window, not only at the advance of R17, is the model's choice (log entry 6), and so is FAULT where
the withdrawal ends the pocket's closing under a new assignment (log entry 14). -/
def Obligations.WindowEnds : Prop :=
  ∀ (s : State) (seq : Nat) (e : Entry) (k : PocketNo) (m : Position), s.OrdersInPlace → s.entry seq = some e →
    e.pocket = some k → e.windowEnd = some m → e.arrivalSeen = false → (s.trk.position - (m + 1)).toNat < 32768 →
    ∃ t, exec (.windowEndExpiry seq) s = .next t ∧ t.RestKept s
      ∧ (∀ j, j ≠ k → (t.pocket j).committed = (s.pocket j).committed)
      ∧ t.trk = { s.trk with queue := s.trk.queue.filter (fun x => x.seq != seq) }
      ∧ (t.pocket k).state = .fault ∧ (t.pocket k).committed = (s.pocket k).committed - 1
      ∧ t.gdr.gates = (if e.state = .deflecting then s.gdr.gates.set k s.gdr.gates[k].minusOne else s.gdr.gates)
      ∧ (∀ d c, e.deposit = some d → s.countingContext d = some c → State.InDoubtBy 1 d c s t)
      ∧ t.evu.counters = (if e.deposit = none ∧ e.isCard = false then (s.bump .orphanInDoubt).evu.counters
          else s.evu.counters)
      ∧ (s.lsv.line ≠ .standby → t.lsv.line.isHalt = true
          ∧ (t.lsv.reason = some .missingArrival ∨ setHas t.lsv.further HaltCause.missingArrival.code = true))

/-- R158: the idle mark, and FEED_IDLE. That the mark is taken at every position that has reached it, not only at the advance of
R17, is the model's choice (log entry 6). -/
def Obligations.IdleMarkReached : Prop :=
  ∀ (s : State) (m : Position), s.lsv.idleMark = some m → s.lsv.idleReached = false →
    (s.trk.position - m).toNat < 32768 →
    ∃ t, exec .idleMarkReached s = .next t
      ∧ t.AgreesWith { s with lsv := { s.lsv with idleReached := true } }
      ∧ (t.lsv.idleRaised = true ↔ s.lsv.idleRaised = true ∨ (s.lsv.line = .run ∧ s.lsv.running = true
          ∧ ∃ c, s.activeContext = some c ∧ 1 ≤ c.assigned))
      ∧ (t.lsv.idleRaised = true → s.lsv.idleRaised = false → t.pendingHas .feedIdle = true)

/-- R62: the entry an arrival at pocket `k` matches is the oldest candidate whose window contains the position. -/
def Obligations.ArrivalMatched : Prop :=
  ∀ (s : State) (k : PocketNo), ∃ fits : Entry → Prop,
    (∀ x, fits x ↔ x.pocket = some k ∧ (x.state = .deflecting ∨ x.state = .awaitingArrival)
        ∧ ∃ a b, x.windowStart = some a ∧ x.windowEnd = some b ∧ (s.trk.position - a).toNat ≤ (b - a).toNat)
      ∧ (∀ e, s.arrivalMatch k = some e ↔
          ∃ older newer, s.trk.queue = older ++ e :: newer ∧ fits e ∧ ∀ x ∈ older, ¬ fits x)
      ∧ (s.arrivalMatch k = none ↔ ∀ x ∈ s.trk.queue, ¬ fits x)

/-- R63, Tables 4-2 and 4-3, R78, R113, R116, R117: a delivery, in the entry's pocket and in its deposit. The counts of the pocket
are told where its bundle does not end in the same event: with the empty eye active, with more notes committed, or in a
strapped sort pocket. R110: the last note of a DRAINING deposit completes it. -/
def Obligations.DeliveryCounts : Prop :=
  ∀ (s : State) (k : PocketNo) (e : Entry), s.arrivalMatch k = some e →
    ∃ t, exec (.arrival k) s = .next t ∧ t.RestKept s
      ∧ t.trk = { s.trk with queue := s.trk.queue.filter (fun x => x.seq != e.seq) }
      ∧ (t.pocket k).committed = (s.pocket k).committed - 1 ∧ (t.pocket k).arrivalEye = true
      ∧ (∀ j, j ≠ k → (t.pocket j).committed = (s.pocket j).committed)
      ∧ t.gdr.gates = (if e.state = .deflecting then s.gdr.gates.set k s.gdr.gates[k].minusOne else s.gdr.gates)
      ∧ t.evu.counters = s.evu.counters
      ∧ (s.Quiet → (s.pocket k).state ≠ .disabled → (s.pocket k).state ≠ .unaccounted →
          (s.pocket k).emptyEye = true ∨ 2 ≤ (s.pocket k).committed ∨ ((s.pocket k).isStrapped = true ∧ 2 ≤ k.val) →
          (t.pocket k).held = (s.pocket k).held + 1
            ∧ (t.pocket k).cardsHeld = (s.pocket k).cardsHeld
                + (if k = pocket1 ∧ e.destination = some (.reject .card) then 1 else 0)
            ∧ (t.pocket k).contributions = deliveredIn (e.deposit.getD 0) (s.pocket k).contributions
            ∧ ((t.pocket k).unlistedCommitted, (t.pocket k).unlistedDelivered)
                = (if k = pocket1 ∧ ∀ c ∈ (s.pocket k).contributions, c.deposit ≠ e.deposit.getD 0 then
                    ((s.pocket k).unlistedCommitted - 1, (s.pocket k).unlistedDelivered + 1)
                  else ((s.pocket k).unlistedCommitted, (s.pocket k).unlistedDelivered))
            ∧ ((s.pocket k).state = .full → (s.pocket k).committed = 1 → (s.pocket k).held + 1 = (s.pocket k).limit →
                ((s.pocket k).isStrapped = true → 2 ≤ k.val →
                  (t.pocket k).state = .complete ∨ (t.pocket k).state = .strapping)
                ∧ ((s.pocket k).isLoose = true → (t.pocket k).state = .awaitingRemoval)))
      ∧ ∀ d c x, e.deposit = some d → s.countingContext d = some c → Context.Delivered e c x →
          ((c.state = .draining → 2 ≤ c.inTransit) → t.countingContext d = some x)
          ∧ (c.state = .draining → c.inTransit ≤ 1 → (s.dpu.contexts.map Context.seq).Nodup →
              t.countingContext d = none ∧ t.CompletedIn { x with state := .recordPending })

/-- R64: a stray arrival: it is counted nowhere. -/
def Obligations.StrayArrival : Prop :=
  ∀ (s : State) (k : PocketNo), s.OrdersInPlace → s.arrivalMatch k = none →
    ∃ t, exec (.arrival k) s = .next t ∧ t.RestKept s ∧ t.tbs = s.tbs
      ∧ t.trk = s.trk ∧ t.gdr = s.gdr ∧ t.evu.counters = s.evu.counters
      ∧ (∀ d, t.countingContext d = s.countingContext d)
      ∧ (∀ j, (t.pocket j).committed = (s.pocket j).committed) ∧ (t.pocket k).arrivalEye = true
      ∧ (t.pocket k).state = (if (s.pocket k).state = .disabled then .disabled
          else if (s.pocket k).state = .unaccounted then .unaccounted else .fault)
      ∧ ((s.pocket k).state = .disabled → (t.pocket k).unaccounted = true)
      ∧ (s.Quiet → (∀ j, j ≠ k → t.pocket j = s.pocket j)
          ∧ t.pocket k = { s.pocket k with
              arrivalEye := true, state := (t.pocket k).state, unaccounted := (t.pocket k).unaccounted,
              strapTimer := (t.pocket k).strapTimer, strapOrder := (t.pocket k).strapOrder })
      ∧ ((t.pocket k).state = .fault → (s.pocket k).state ≠ .fault → t.pendingHas .pocketFault = true)
      ∧ t.lsv.line = (s.haltCause .strayArrival).lsv.line ∧ t.lsv.reason = (s.haltCause .strayArrival).lsv.reason
      ∧ t.lsv.further = (s.haltCause .strayArrival).lsv.further

/-! ## Pocket eyes and straps (chapter 5) -/

/-- R85, R86, R87: an edge of an empty eye; in AWAITING_REMOVAL an edge to inactive is the removal. -/
def Obligations.EmptyEyeEdge : Prop :=
  ∀ (s : State) (k : PocketNo) (active : Bool), s.OrdersInPlace →
    ∃ t, exec (.emptyEyeEdge k active) s = .next t ∧ t.RestKept s ∧ t.LineKept s ∧ t.evu.counters = s.evu.counters
      ∧ (t.pocket k).emptyEye = active ∧ (t.pocket k).emptyDelta = true ∧ t.pendingHas .pocketEyeChange = true
      ∧ ((s.pocket k).state = .disabled → (t.pocket k).state = .disabled ∧ (t.pocket k).unaccounted = active)
      ∧ ((s.pocket k).state = .unaccounted ∨ (s.pocket k).state = .strapping ∨ (s.pocket k).state = .fault →
          (t.pocket k).state = (s.pocket k).state)
      ∧ (active = false → (s.pocket k).isStrapped = true → 0 < (s.pocket k).held →
          (s.pocket k).state ∈ [.open, .full, .closing, .complete, .inhibited] → (t.pocket k).state = .fault)
      ∧ (active = false → (s.pocket k).isLoose = true → 0 < (s.pocket k).held →
          (s.pocket k).state ∈ [.open, .full, .closing] → 0 < (s.pocket k).committed → (t.pocket k).state = .fault)
      ∧ (active = false → (s.pocket k).isLoose = true → 0 < (s.pocket k).held →
          (s.pocket k).state ∈ [.open, .full, .closing] → (s.pocket k).committed = 0 → (s.pocket k).record = none →
          (t.pocket k).held = 0
            ∧ t.Recorded k (Pocket.bundleRecord .removed
                { s.pocket k with short := (s.pocket k).short || decide ((s.pocket k).held < (s.pocket k).limit) }))
      ∧ (active = false → (s.pocket k).state = .awaitingRemoval → (s.pocket k).record = none →
          (t.pocket k).held = 0 ∧ t.Recorded k ((s.pocket k).bundleRecord .removed)
            ∧ ((s.pocket k).changeover = true →
                (t.pocket k).assignment = s.tbs.active.assignmentFor k ∧ (t.pocket k).changeover = false)
            ∧ ∀ cls pure capacity allowance limit, (s.pocket k).changeover = false → (s.pocket k).committed = 0 →
                (s.pocket k).assignment = some { cls := cls, kind := .loose capacity allowance, pure := pure } →
                limit = (if (s.pocket k).stackEye then min capacity allowance else capacity) → 0 < limit →
                (t.pocket k).state = .open ∧ (t.pocket k).limit = limit)
      ∧ (active = false → (s.pocket k).isLoose = true → (s.pocket k).state = .inhibited →
          (t.pocket k).state = if 0 < (s.pocket k).committed then .fault else .inhibited)

/-- R72, R87: an edge of a stack eye, at a pocket whose empty eye sees content. -/
def Obligations.StackEyeEdge : Prop :=
  ∀ (s : State) (k : PocketNo) (active : Bool), s.OrdersInPlace →
    ∃ t, exec (.stackEyeEdge k active) s = .next t ∧ t.RestKept s ∧ t.LineKept s ∧ t.evu.counters = s.evu.counters
      ∧ (t.pocket k).stackEye = active ∧ (t.pocket k).stackDelta = true ∧ t.pendingHas .pocketEyeChange = true
      ∧ ((s.pocket k).emptyEye = true → (s.pocket k).isLoose = false →
          (t.pocket k).limit = (s.pocket k).limit
            ∧ ((s.pocket k).state ≠ .complete → (t.pocket k).state = (s.pocket k).state))
      ∧ ∀ cls pure capacity allowance filled limit, (s.pocket k).emptyEye = true →
          (s.pocket k).assignment = some { cls := cls, kind := .loose capacity allowance, pure := pure } →
          filled = (s.pocket k).committed + (s.pocket k).held →
          limit = (if active then max filled (min capacity (filled + allowance)) else max capacity filled) →
          (t.pocket k).limit = limit
            ∧ ((s.pocket k).state = .open ∨ (s.pocket k).state = .full →
                (t.pocket k).state = if filled < limit then .open
                  else if (s.pocket k).committed = 0 then .awaitingRemoval else .full)
            ∧ ((s.pocket k).state ∉ [.open, .full, .complete] → (t.pocket k).state = (s.pocket k).state)

/-- R84: the strap timer; that its expiry changes nothing at a pocket that is not STRAPPING is the model's choice (log entry 1).
R83: a strap report, matching and not, one that names no pocket among them. -/
def Obligations.StrapEnds : Prop :=
  (∀ (s : State) (k : PocketNo),
    ((s.pocket k).state = .strapping → (s.pocket k).strapTimer ≠ none →
      ∃ t, exec (.strapTimerExpiry k) s = .next t ∧ t.Recorded k ((s.pocket k).bundleRecord .strapTimeout)
        ∧ (t.pocket k).state = .fault ∧ (t.pocket k).held = 0 ∧ (t.pocket k).strapTimer = none
        ∧ t.pendingHas .pocketFault = true ∧ t.RestKept s ∧ t.LineKept s ∧ t.evu.counters = s.evu.counters)
    ∧ ((s.pocket k).state ≠ .strapping → exec (.strapTimerExpiry k) s = .next s))
  ∧ (∀ (s : State) (own src corr pk b3 b2 b1 b0 result : Byte) (k : PocketNo) (matching : Prop),
    s.HearsFrom own src [pk, b3, b2, b1, b0, result] → s.OrdersInPlace → pk.toNat = k.val + 1 →
    (matching ↔ s.tbs.params.strappingStation = some src.toNat ∧ (s.pocket k).state = .strapping
      ∧ (s.pocket k).bundle = some (b3.toNat * 16777216 + b2.toNat * 65536 + b1.toNat * 256 + b0.toNat)) →
    ∃ t, exec (.linkFrameReceived (frameBytes own src 0x02 corr [pk, b3, b2, b1, b0, result])) s = .next t
      ∧ (¬ matching → t.AgreesWith ((s.bump .lateStrapReports).raise .strapLate))
      ∧ (matching → t.RestKept s ∧ t.LineKept s ∧ t.evu.counters = s.evu.counters ∧ (t.pocket k).held = 0
          ∧ (t.pocket k).strapTimer = none
          ∧ (result = 0 → t.Recorded k ((s.pocket k).bundleRecord .strapped)
              ∧ ((s.pocket k).emptyEye = true → (t.pocket k).state = .fault)
              ∧ ∀ cls pure size, (s.pocket k).emptyEye = false → (s.pocket k).changeover = false →
                  (s.pocket k).assignment = some { cls := cls, kind := .strapped size, pure := pure } →
                  (s.pocket k).committed < size → (t.pocket k).state = .open ∧ (t.pocket k).limit = size)
          ∧ (result ≠ 0 → t.Recorded k ((s.pocket k).bundleRecord .strapFailed) ∧ (t.pocket k).state = .fault
              ∧ t.pendingHas .strapFailed = true)))
  ∧ ∀ (s : State) (own src corr pk b3 b2 b1 b0 result : Byte),
    s.HearsFrom own src [pk, b3, b2, b1, b0, result] → pk.toNat = 0 ∨ 16 < pk.toNat →
    ∃ t, exec (.linkFrameReceived (frameBytes own src 0x02 corr [pk, b3, b2, b1, b0, result])) s = .next t
      ∧ t.AgreesWith ((s.bump .lateStrapReports).raise .strapLate)

/-! ## The transport (chapter 8) -/

/-- R147: the edges of RUNNING. R110, R114, R151, R152: the stop event, as R149 scheduled it and at a falling edge, with the
in-doubt counts of the deposits and the orphans. That an edge to the level RUNNING has already is treated like any other is
the model's choice (log entry 7). -/
def Obligations.RunningAndStop : Prop :=
  ∀ s : State,
    (s.lsv.stopScheduled = true →
      (s.lsv.line = .haltStopping → s.lsv.running = false →
        ∃ t, exec .stopEvent s = .next t ∧ s.StoppedFrom t ∧ t.lsv.stopScheduled = false)
      ∧ (s.Quiet → s.lsv.line ≠ .haltStopping ∨ s.lsv.running = true →
        exec .stopEvent s = .next { s with lsv := { s.lsv with stopScheduled := false } }))
    ∧ (∃ t, exec .runningRisingEdge s = .next t ∧ t.AgreesWith { s with lsv := { s.lsv with running := true } })
    ∧ (s.lsv.line = .run ∨ s.lsv.line = .drain → s.trk.queue ≠ [] →
        ∃ t, exec .runningFallingEdge s = .next t
          ∧ t.AgreesWith (State.haltCause .transportStopped { s with lsv := { s.lsv with running := false } }))
    ∧ (s.lsv.line = .haltStopping → ∃ t, exec .runningFallingEdge s = .next t ∧ s.StoppedFrom t)
    ∧ (s.Quiet → ((s.lsv.line = .run ∨ s.lsv.line = .drain) ∧ s.trk.queue = [])
          ∨ s.lsv.line = .standby ∨ s.lsv.line = .ready ∨ s.lsv.line = .haltStopped →
        exec .runningFallingEdge s = .next { s with lsv := { s.lsv with running := false } })

/-! ## The line link (chapter 9) -/

/-- R161, R164, Table 9-2: a whole frame comes in exactly as it was sent, and is sorted by its DEST; the part's own frames
have this form too (R168). -/
def Obligations.FrameDelivered : Prop :=
  ∀ (s : State) (dest src kind corr : Byte) (payload : List Byte), s.lnk.receiver = .hunting → payload.length ≤ 244 →
    exec (.linkFrameReceived (frameBytes dest src kind corr payload)) s = .next (State.settle
      (if dest = 255 then s.sortBroadcast (frameBytes dest src kind corr payload) src kind corr payload
       else if s.lnk.station = some dest.toNat then s.sortOwn src kind corr payload
       else s.offerForward (frameBytes dest src kind corr payload)))

/-- R161: what the receiver does not take: bytes before SYNC, a LENGTH out of range, a check that is not equal. -/
def Obligations.DamagedFrame : Prop :=
  ∀ s : State, s.lnk.receiver = .hunting →
    (∀ bytes : List Byte, (∀ b ∈ bytes, b ≠ 0xC3) → exec (.linkFrameReceived bytes) s = .next s)
    ∧ (∀ len : Byte, len.toNat < 5 ∨ 249 < len.toNat →
        ∃ t, exec (.linkFrameReceived [0xC3, len]) s = .next t
          ∧ t.AgreesWith ((s.bump .linkCheckErrors).raise .linkError))
    ∧ (∀ (len hi lo : Byte) (covered : List Byte), 5 ≤ len.toNat → len.toNat ≤ 249 → covered.length + 1 = len.toNat →
        [hi, lo] ≠ bytes16 (crc covered) →
        ∃ t, exec (.linkFrameReceived (0xC3 :: len :: covered ++ [hi, lo])) s = .next t
          ∧ t.AgreesWith ((s.bump .linkCheckErrors).raise .linkError))

/-- R164, R165, Table 9-5: frames for the part that are no NOTE and no STRAP_DONE. -/
def Obligations.CommandFrames : Prop :=
  ∀ (s : State) (own src kind corr : Byte) (payload : List Byte), s.HearsFrom own src payload → kind ≠ 0x01 → kind ≠ 0x02 →
    (kind ∈ [0x40, 0x41, 0x42, 0x43, 0x44] →
      ∃ t, exec (.linkFrameReceived (frameBytes own src kind corr payload)) s = .next t
        ∧ t.AgreesWith ((s.bump .linkCheckErrors).raise .linkError))
    ∧ (kind ∉ [0x40, 0x41, 0x42, 0x43, 0x44] → s.Quiet → s.cmp.commands.length < 4 →
      exec (.linkFrameReceived (frameBytes own src kind corr payload)) s = .next { s with cmp := { s.cmp with
        commands := s.cmp.commands ++
          [{ src := src, kind := kind, corr := corr, payload := payload, broadcast := false }] } })
    ∧ (kind ∉ [0x40, 0x41, 0x42, 0x43, 0x44] → 4 ≤ s.cmp.commands.length →
      ∃ t, exec (.linkFrameReceived (frameBytes own src kind corr payload)) s = .next t
        ∧ t.AgreesWith ((s.bump .commandDrops).raise .commandDrop))

/-- R166, R167: frames for other stations and broadcasts, while the transmit slot is occupied; and a forwarded frame that
finds the link idle. -/
def Obligations.ForwardedFrames : Prop :=
  ∀ (s : State) (dest src kind corr : Byte) (payload frame : List Byte), s.Quiet → s.lnk.receiver = .hunting →
    payload.length ≤ 244 → frame = frameBytes dest src kind corr payload →
    (s.lnk.station ≠ some dest.toNat → dest ≠ 255 →
      (s.lnk.slot = none → ∃ t, exec (.linkFrameReceived frame) s = .next t
        ∧ t.lnk.slot = some { source := .forward, bytes := frame } ∧ t.AgreesWith s)
      ∧ (s.lnk.slot ≠ none → s.lnk.forward.length < 8 → exec (.linkFrameReceived frame) s
          = .next { s with lnk := { s.lnk with forward := s.lnk.forward ++ [frame] } })
      ∧ (s.lnk.slot ≠ none → 8 ≤ s.lnk.forward.length → ∃ t, exec (.linkFrameReceived frame) s = .next t
          ∧ t.AgreesWith ((s.bump .forwardDrops).raise .forwardDrop) ∧ t.lnk = s.lnk))
    ∧ (dest = 255 → s.lnk.slot ≠ none → s.lnk.forward.length < 8 →
        ((kind = 0x1A ∧ (payload = [0] ∨ payload = [1])) ∨ (kind = 0x17 ∧ (payload = [1] ∨ payload = [2])) →
          s.cmp.commands.length < 4 →
          exec (.linkFrameReceived frame) s = .next { s with
            lnk := { s.lnk with forward := s.lnk.forward ++ [frame] }
            cmp := { s.cmp with commands := s.cmp.commands ++
              [{ src := src, kind := kind, corr := corr, payload := payload, broadcast := true }] } })
        ∧ (kind ≠ 0x1A → kind ≠ 0x17 → exec (.linkFrameReceived frame) s
            = .next { s with lnk := { s.lnk with forward := s.lnk.forward ++ [frame] } }))

/-- R20, R21: a note frame for the part. -/
def Obligations.NoteFrames : Prop :=
  ∀ (s : State) (own src corr : Byte) (payload : List Byte) (lengthOk : Prop), s.Quiet → s.HearsFrom own src payload →
    (lengthOk ↔ 14 ≤ payload.length ∧ (payload.getD 13 0).toNat ≤ 12
      ∧ payload.length = 14 + (payload.getD 13 0).toNat) →
    ∀ run, run = exec (.linkFrameReceived (frameBytes own src 0x01 corr payload)) s →
    (s.tbs.params.inspectionStation ≠ some src.toNat → run = .next (s.bump .foreignNoteFrames))
    ∧ (s.tbs.params.inspectionStation = some src.toNat →
        (¬ lengthOk → run = .next (s.bump .phantomFrames))
        ∧ (lengthOk → s.idu.overrun = true → run = .next (s.bump .intakeFramesLost))
        ∧ (lengthOk → s.idu.overrun = false → s.idu.fifo.length < 8 →
            run = .next { s with idu := { s.idu with fifo := s.idu.fifo ++ [rawNoteOf payload] } })
        ∧ (lengthOk → s.idu.overrun = false → 8 ≤ s.idu.fifo.length →
            ∃ t, run = .next t ∧ t.AgreesWith (State.raise .intakeOverrun (State.hold .intakeOverrun
              (State.bump .intakeFramesLost { s with idu := { s.idu with overrun := true } })))))

/-- R168, R169, Table 9-6: what the end of a transmission lets into the transmit slot. That a strap order placed while no
strapping station is configured has DEST 255 is the model's choice (log entry 24). -/
def Obligations.TransmissionEnds : Prop :=
  ∀ (s : State) (f : TxFrame), s.Quiet → s.lnk.slot = some f →
    ∃ t, exec .transmissionEnd s = .next t ∧ t.AgreesWith s
      ∧ (∀ r rs, s.cmp.replies = r :: rs → t.lnk.slot = some (s.replyFrame r) ∧ t.cmp.replies = rs)
      ∧ (s.cmp.replies = [] →
          (∀ c, s.nextRecord = some c → t.lnk.slot = some (s.ownFrame .depositRecord 0 0x44 0 c.record)
            ∧ t.dpu.completion = s.dpu.completion.tail ∧ t.held .contextShortage = false
            ∧ ∀ x ∈ t.dpu.contexts, x ∈ s.dpu.contexts ∧ ¬ (x.state = .recordPending ∧ x.seq = c.seq))
          ∧ (s.nextRecord = none →
              (∀ k o, s.firstOrder = some (k, o) → (t.pocket k).state = .strapping ∧ (t.pocket k).strapOrder = none
                ∧ (t.pocket k).strapTimer = some s.tbs.params.strapTimeout
                ∧ t.lnk.slot = some (s.ownFrame .strapOrder
                    (BitVec.ofNat 8 (s.tbs.params.strappingStation.getD 255)) 0x42 0 (o.payload k)))
              ∧ (s.firstOrder = none →
                  (∀ k r, s.firstRecord = some (k, r) →
                    t.lnk.slot = some (s.ownFrame .bundleRecord 0 0x43 0 (r.payload k)))
                  ∧ (s.firstRecord = none →
                      (s.evu.owed = true → t.evu.owed = false ∧ t.evu.frameNumber = s.evu.frameNumber + 1
                        ∧ t.lnk.slot = some (s.ownFrame .event 0 0x41 (s.evu.frameNumber + 1) s.eventPayload))
                      ∧ (s.evu.owed = false →
                          (∀ b bs, s.lnk.forward = b :: bs →
                            t.lnk.slot = some { source := .forward, bytes := b } ∧ t.lnk.forward = bs)
                          ∧ (s.lnk.forward = [] → t.lnk.slot = none))))))

/-! ## Management commands (chapter 10) -/

/-- With no command of the row at the head of the command queue, or none that may be taken (R172), a take changes nothing: the
model's choice (log entry 1), as is which row a command of a wrong length or code is of (log entry 3). R173 to R175: a
command that is taken leaves its queue; an addressed one is answered with one reply, a broadcast with none; and a refused one
changes nothing outside CMP and the transmit slot. R173 steps 1 to 3: the two refusals that have rows of their own. -/
def Obligations.CommandAnswered : Prop :=
  (∀ (s : State) (row : Instr), (∃ q, rowOf q = row) →
    ((∀ q rest, ¬ s.Due row q rest) → exec row s = .next s)
    ∧ ∀ q rest, s.Due row q rest →
      ∃ t, exec row s = .next t ∧ t.cmp.commands = rest
        ∧ (q.broadcast = false → ∃ a, s.Replied q a t
            ∧ (a.code.isSome = true → a.page = [] ∧ (s.Quiet → t = s.concluded q rest a)))
        ∧ (q.broadcast = true → s.lnk.slot ≠ none → t.cmp.replies = s.cmp.replies))
  ∧ ∀ (s : State) (q : QueuedCommand) (rest : List QueuedCommand), s.Quiet → q.broadcast = false →
    (s.Due .unknownKind q rest → (q.kind.toNat < 0x10 ∨ 0x1F < q.kind.toNat)
      ∧ exec .unknownKind s = .next (s.concluded q rest (refusal .unknownKind 0)))
    ∧ ∀ length : Nat, (q.kind = 0x17 ∧ length = 1) ∨ (q.kind = 0x19 ∧ length = 2) ∨ (q.kind = 0x1A ∧ length = 1)
        ∨ (q.kind = 0x1C ∧ length = 3) ∨ (q.kind = 0x1E ∧ length = 2) →
      s.Due .parameterCodeRefusal q rest →
      exec .parameterCodeRefusal s = .next (s.concluded q rest
        (refusal (if q.payload.length = length then .badIndex else .badLength) 0))

/-- R127: LOAD_TABLE, with the entries of Table 12-6 read as Table 7-3 adjusts them. That the loose limits, one per pocket 1 to
16, have the indices 1 to 16 is the model's reading (log entry 29); the other tables begin at index 0. -/
def Obligations.LoadTable : Prop :=
  ∀ (s : State) (q : QueuedCommand) (rest : List QueuedCommand), s.Quiet → s.Due .loadTable q rest → q.broadcast = false →
    (q.payload.length < 3 → exec .loadTable s = .next (s.concluded q rest (refusal .badLength 0)))
    ∧ ∀ (kind first count : Byte) (entries : List Byte), q.payload = kind :: first :: count :: entries →
      ∀ base : Nat, base = (if kind = 3 then 1 else 0) →
      (∀ size, entrySize kind.toNat = some size → entries.length ≠ count.toNat * size →
        exec .loadTable s = .next (s.concluded q rest (refusal .badLength 0)))
      ∧ ((∀ size, entrySize kind.toNat = some size → entries.length = count.toNat * size) →
          (s.tbs.swapPending = true → exec .loadTable s = .next (s.concluded q rest (refusal .swapPending 0)))
          ∧ (s.tbs.swapPending = false →
              (entrySize kind.toNat = none ∨ count = 0 ∨ first.toNat < base
                  ∨ base + tableSize kind.toNat ≤ first.toNat + count.toNat - 1 →
                exec .loadTable s = .next (s.concluded q rest (refusal .badIndex 0)))
              ∧ (entrySize kind.toNat ≠ none → count ≠ 0 → base ≤ first.toNat →
                  first.toNat + count.toNat ≤ base + tableSize kind.toNat →
                exec .loadTable s = .next (State.concluded q rest Answer.done
                  { s with tbs := { s.tbs with shadow := loadBank s.tbs.shadow q.payload } }))))

/-- R127, R128, Table 7-3: what an accepted payload writes: the entries named, adjusted, and no other. The loose limits of index
k are those of pocket k, from 1 on (log entry 29). -/
def Obligations.LoadedEntries : Prop :=
  ∀ (b : Bank) (first count : Byte) (entries p : List Byte) (kind : Byte), p = kind :: first :: count :: entries →
    (kind = 0 → { loadBank b p with denominations := b.denominations } = b
      ∧ ∀ j : Fin 16, (loadBank b p).denominations[j] =
        if first.toNat ≤ j.val ∧ j.val < first.toNat + count.toNat
        then denominationEntry p (3 + 5 * (j.val - first.toNat)) else b.denominations[j])
    ∧ (kind = 1 → { loadBank b p with rules := b.rules } = b
      ∧ ∀ j : Fin 48, (loadBank b p).rules[j] =
        if first.toNat ≤ j.val ∧ j.val < first.toNat + count.toNat
        then ruleEntry p (3 + 7 * (j.val - first.toNat)) else b.rules[j])
    ∧ (kind = 2 → { loadBank b p with classes := b.classes } = b
      ∧ ∀ j : Fin 24, (loadBank b p).classes[j] =
        if first.toNat ≤ j.val ∧ j.val < first.toNat + count.toNat
        then classEntry p (3 + 6 * (j.val - first.toNat)) else b.classes[j])
    ∧ (kind = 3 → 1 ≤ first.toNat → { loadBank b p with loose := b.loose } = b
      ∧ ∀ k : PocketNo, (loadBank b p).loose[k] =
        if first.toNat ≤ k.val + 1 ∧ k.val + 1 < first.toNat + count.toNat
        then looseEntry p (3 + 3 * (k.val + 1 - first.toNat)) else b.loose[k])
    ∧ (kind = 4 → { loadBank b p with watch := b.watch } = b
      ∧ ∀ j : Fin 32, (loadBank b p).watch[j] =
        if first.toNat ≤ j.val ∧ j.val < first.toNat + count.toNat
        then watchEntry p (3 + 17 * (j.val - first.toNat)) else b.watch[j])
    ∧ ∀ o, 1 ≤ (denominationEntry p o).face ∧ (denominationEntry p o).face ≤ 99999999
        ∧ (classEntry p o).bundleSize ≤ 250 ∧ (classEntry p o).pockets.Nodup
        ∧ (∀ k ∈ (classEntry p o).pockets, 2 ≤ k.val) ∧ 1 ≤ (looseEntry p o).capacity
        ∧ (looseEntry p o).capacity ≤ 500 ∧ (looseEntry p o).allowance ≤ 31

/-- R129, R134: COPY_ACTIVE_TO_SHADOW and CANCEL_COMMIT. -/
def Obligations.CopyAndCancel : Prop :=
  ∀ (s : State) (q : QueuedCommand) (rest : List QueuedCommand), s.Quiet → q.broadcast = false → q.payload = [] →
    (s.Due .copyActiveToShadow q rest →
      (s.tbs.swapPending = true →
        exec .copyActiveToShadow s = .next (s.concluded q rest (refusal .swapPending 0)))
      ∧ (s.tbs.swapPending = false → s.lsv.line = .standby →
        exec .copyActiveToShadow s = .next (s.concluded q rest (refusal .state 0)))
      ∧ (s.tbs.swapPending = false → s.lsv.line ≠ .standby →
        exec .copyActiveToShadow s = .next (State.concluded q rest Answer.done
          { s with tbs := { s.tbs with shadow := s.tbs.active } })))
    ∧ (s.Due .cancelCommit q rest →
      (s.tbs.swapPending = false → exec .cancelCommit s = .next (s.concluded q rest (refusal .state 0)))
      ∧ (s.tbs.swapPending = true → exec .cancelCommit s = .next (State.concluded q rest Answer.done
          { s with tbs := { s.tbs with swapPending := false } })))

/-- R130 to R132: COMMIT_TABLES: refused, pending, or a swap at once, with the changeover of every pocket. R71, R91, R135, Table
5-4: what the changeover does to a pocket record. -/
def Obligations.CommitTables : Prop :=
  (∀ (s : State) (q : QueuedCommand) (rest : List QueuedCommand), s.Quiet → s.Due .commitTables q rest →
    q.broadcast = false → q.payload = [] →
    (s.tbs.swapPending = true → exec .commitTables s = .next (s.concluded q rest (refusal .swapPending 0)))
    ∧ (∀ n, s.tbs.swapPending = false → s.tbs.shadow.failedCheck s.tbs.params = some n →
        exec .commitTables s = .next (s.concluded q rest (refusal .invalidTables n)))
    ∧ (s.tbs.swapPending = false → s.tbs.shadow.failedCheck s.tbs.params = none →
        (s.activeContext ≠ none ∨ s.trk.queue ≠ [] →
          exec .commitTables s = .next (State.concluded q rest Answer.done
            { s with tbs := { s.tbs with swapPending := true } }))
        ∧ (s.activeContext = none → s.trk.queue = [] →
          ∃ t, s.Answers .commitTables q Answer.done (s.taken rest).swapped t ∧ t.pkm.blocked = 0
            ∧ ∀ k p, p = (s.pocket k).changeBank s.tbs.shadow k → p.state ≠ .complete → p.state ≠ .awaitingRemoval →
                t.pocket k = p)))
  ∧ (∀ (b : Bank) (k : PocketNo), 2 ≤ k.val →
      ((∀ c : ClassNo, k ∉ b.classes[c].pockets) → b.assignmentFor k = none)
      ∧ ∀ c : ClassNo, k ∈ b.classes[c].pockets → (∀ d : ClassNo, k ∈ b.classes[d].pockets → d = c) →
        ∀ kind : PocketKind, kind = (if b.classes[c].bundleSize = 0
            then .loose b.loose[k].capacity b.loose[k].allowance else .strapped b.classes[c].bundleSize) →
        b.assignmentFor k = some { cls := some c, kind := kind, pure := b.classes[c].pure })
  ∧ ∀ (b : Bank) (k : PocketNo) (p q : Pocket), q = p.changeBank b k →
    (2 ≤ k.val →
      (p.assignment = b.assignmentFor k → q = { p with changeover := false })
      ∧ (p.assignment ≠ b.assignmentFor k →
        (p.state ∈ [.closing, .complete, .strapping, .awaitingRemoval, .inhibited, .fault] →
          q = { p with changeover := true })
        ∧ (p.state ∈ [.disabled, .unaccounted] → p.Took b k q)
        ∧ (p.state ∈ [.open, .full] →
          (0 < p.committed → q = { p with changeover := true, state := .closing })
          ∧ (p.committed = 0 → 0 < p.held → q = { p with
              changeover := true, short := p.short || decide (p.held < p.limit),
              state := if p.isLoose then .awaitingRemoval else .complete })
          ∧ (p.committed = 0 → p.held = 0 → p.Took b k q))))
    ∧ (k.val < 2 → ∀ filled limit, filled = p.committed + p.held →
        limit = (if p.stackEye then max filled (min b.loose[k].capacity (filled + b.loose[k].allowance))
          else max b.loose[k].capacity filled) →
        ∃ state, q = { p with
            assignment := some { cls := none, kind := .loose b.loose[k].capacity b.loose[k].allowance, pure := false },
            limit := limit, state := state }
          ∧ (p.state = .disabled → p.unaccounted = true → state = .unaccounted)
          ∧ (p.state = .disabled → p.unaccounted = false → filled < limit → state = .open)
          ∧ (p.state = .open ∨ p.state = .full →
              state = if filled < limit then .open else if p.committed = 0 then .awaitingRemoval else .full)
          ∧ (p.state ∉ [.disabled, .open, .full] → state = p.state))

/-- R130, Table 7-4, and R138, R139, Table 7-7: which check of a bank or of a parameter set is the first that fails, where `P n` says
that check `n` passes. -/
def Obligations.ChecksPassed : Prop :=
  (∀ (b : Bank) (p : LineParameters) (P : Nat → Prop),
    (P 1 ↔ ∀ r ∈ b.rules.toList, ∀ c, r.result = .cls c → b.classes[c].pockets ≠ []) →
    (P 2 ↔ ∀ (k : PocketNo) (c d : ClassNo), k ∈ b.classes[c].pockets → k ∈ b.classes[d].pockets → c = d) →
    (P 3 ↔ p.geometry[pocket1].isSome = true ∧ p.geometry[pocket2].isSome = true
      ∧ ∀ (c : ClassNo) (k : PocketNo), k ∈ b.classes[c].pockets → p.geometry[k].isSome = true) →
    (P 4 ↔ ((∃ c : ClassNo, b.classes[c].pockets ≠ [] ∧ b.classes[c].bundleSize ≠ 0) → p.strappingStation ≠ none)) →
    (P 5 ↔ ∀ w ∈ b.watch.toList, w.length ≠ 0 → w.length.toNat ≤ 12
      ∧ (∀ ch ∈ w.pattern.take w.length.toNat, (0x30 ≤ ch.toNat ∧ ch.toNat ≤ 0x39) ∨ (0x41 ≤ ch.toNat ∧ ch.toNat ≤ 0x5A))
      ∧ (w.denomination.toNat ≤ 15 ∨ w.denomination = 255) ∧ w.action.toNat ≤ 1) →
    (b.failedCheck p = none ↔ P 1 ∧ P 2 ∧ P 3 ∧ P 4 ∧ P 5)
    ∧ ∀ n, b.failedCheck p = some n ↔ 1 ≤ n ∧ n ≤ 5 ∧ ¬ P n ∧ ∀ m, 1 ≤ m → m < n → P m)
  ∧ ∀ (t : TableStore) (p : LineParameters) (P : Nat → Prop) (needs : Bank → Prop),
    (∀ b, needs b ↔ p.geometry[pocket1].isSome = true ∧ p.geometry[pocket2].isSome = true
      ∧ ∀ (c : ClassNo) (k : PocketNo), k ∈ b.classes[c].pockets → p.geometry[k].isSome = true) →
    (P 1 ↔ p.dInsp + p.tolerance < p.dDec) → (P 2 ↔ p.maxLength < p.dDec) →
    (P 3 ↔ ∀ (k : PocketNo) (g : Geometry), k ≠ pocket1 → p.geometry[k] = some g → p.dDec + g.a < g.g) →
    (P 4 ↔ ∀ (k : PocketNo) (g : Geometry), k ≠ pocket1 → p.geometry[k] = some g →
      2 * p.maxLength + p.minGap + g.a < g.g) →
    (P 5 ↔ ∀ (k : PocketNo) (g : Geometry), k ≠ pocket1 → p.geometry[k] = some g → g.a + g.h ≤ p.minGap) →
    (P 6 ↔ ∀ (k : PocketNo) (g : Geometry), k ≠ pocket1 → p.geometry[k] = some g → g.g < g.p) →
    (P 7 ↔ ∀ (k : PocketNo) (g g1 : Geometry), k ≠ pocket1 → p.geometry[k] = some g → p.geometry[pocket1] = some g1 →
      g.p < g1.p) →
    (P 8 ↔ (t.generation ≠ 0 → needs t.active) ∧ (t.swapPending = true → needs t.shadow)) →
    (p.failedGeometry = none ↔ P 1 ∧ P 2 ∧ P 3 ∧ P 4 ∧ P 5 ∧ P 6 ∧ P 7)
    ∧ (t.failedParameters p = none ↔ ∀ n, 1 ≤ n → n ≤ 8 → P n)
    ∧ ∀ n, t.failedParameters p = some n ↔ 1 ≤ n ∧ n ≤ 8 ∧ ¬ P n ∧ ∀ m, 1 ≤ m → m < n → P m

/-- R136, R137, R140: SET_LINE_PARAMETERS. -/
def Obligations.SetLineParameters : Prop :=
  ∀ (s : State) (q : QueuedCommand) (rest : List QueuedCommand), s.Quiet → s.Due .setLineParameters q rest →
    q.broadcast = false →
    (q.payload.length ≠ 196 → exec .setLineParameters s = .next (s.concluded q rest (refusal .badLength 0)))
    ∧ (q.payload.length = 196 →
      (s.lsv.line ≠ .standby → s.lsv.line ≠ .ready →
        exec .setLineParameters s = .next (s.concluded q rest (refusal .state 0)))
      ∧ (s.lsv.line = .standby ∨ s.lsv.line = .ready →
        (∀ n, s.tbs.failedParameters (parametersOf q.payload) = some n →
          exec .setLineParameters s = .next (s.concluded q rest (refusal .geometry n)))
        ∧ (s.tbs.failedParameters (parametersOf q.payload) = none →
          ∃ t, s.Answers .setLineParameters q Answer.done { s.taken rest with
              trk := { s.trk with phase := 0 }
              tbs := { s.tbs with params := parametersOf q.payload }
              lsv := { s.lsv with idleMark := none, idleReached := false } } t
            ∧ t.pkm.nextBundle = (if (parametersOf q.payload).bundleBase = 0 then s.pkm.nextBundle
                else (parametersOf q.payload).bundleBase)
            ∧ ((parametersOf q.payload).strappingStation = none → ∀ k, (t.pocket k).strapOrder = none))))

/-- R103, Table 6-4, and R104: DECLARE and WITHDRAW. -/
def Obligations.Declarations : Prop :=
  ∀ (s : State) (q : QueuedCommand) (rest : List QueuedCommand) (card : Nat), s.Quiet → q.broadcast = false →
    card = number32At q.payload 0 →
    (s.Due .declare q rest →
      (declareLengthOk q.payload = false → exec .declare s = .next (s.concluded q rest (refusal .badLength 0)))
      ∧ (declareLengthOk q.payload = true →
        (digitsValid (declaredValueBytes q.payload) = false →
          exec .declare s = .next (s.concluded q rest (refusal .badDigit 0)))
        ∧ (digitsValid (declaredValueBytes q.payload) = true →
          (¬ (1 ≤ card ∧ card ≤ 99999999 ∧ (∀ d ∈ declaredPairs q.payload (count8At q.payload 11) 12, d.1 ≤ 15)
              ∧ ((declaredPairs q.payload (count8At q.payload 11) 12).map Prod.fst).Nodup) →
            exec .declare s = .next (s.concluded q rest (refusal .badIndex 0)))
          ∧ (1 ≤ card → card ≤ 99999999 → (∀ d ∈ declaredPairs q.payload (count8At q.payload 11) 12, d.1 ≤ 15) →
              ((declaredPairs q.payload (count8At q.payload 11) 12).map Prod.fst).Nodup →
            ((∃ d ∈ s.dpu.declarations, d.card = card) →
              exec .declare s = .next (s.concluded q rest (refusal .duplicateCard 0)))
            ∧ ((∀ d ∈ s.dpu.declarations, d.card ≠ card) →
              ((∃ c ∈ s.dpu.contexts, c.card = some card) →
                exec .declare s = .next (s.concluded q rest (refusal .cardOpen 0)))
              ∧ ((∀ c ∈ s.dpu.contexts, c.card ≠ some card) →
                (8 ≤ s.dpu.declarations.length →
                  exec .declare s = .next (s.concluded q rest (refusal .listFull 0)))
                ∧ (s.dpu.declarations.length < 8 →
                  exec .declare s = .next (State.concluded q rest Answer.done { s with dpu := { s.dpu with
                    declarations := s.dpu.declarations ++ [declarationOf q.payload] } }))))))))
    ∧ (s.Due .withdraw q rest → q.payload.length = 4 →
      ((∀ d ∈ s.dpu.declarations, d.card ≠ card) →
        exec .withdraw s = .next (s.concluded q rest (refusal .unknownCard 0)))
      ∧ ((∃ d ∈ s.dpu.declarations, d.card = card) →
        exec .withdraw s = .next (State.concluded q rest Answer.done { s with dpu := { s.dpu with
          declarations := s.dpu.declarations.filter (fun d => d.card != card) } })))

/-- R89, R108, R109, R110, R133: FORCE_DEPOSIT_END, with the closing of the deposit-pure pockets where the deposit completes at
once. Deposit sequences in use are distinct (R100). -/
def Obligations.ForceDepositEnd : Prop :=
  ∀ (s : State) (q : QueuedCommand) (rest : List QueuedCommand), s.Quiet → s.Due .forceDepositEnd q rest →
    q.broadcast = false → q.payload = [] → (s.dpu.contexts.map Context.seq).Nodup →
    (s.activeContext = none → exec .forceDepositEnd s = .next (s.concluded q rest (refusal .state 0)))
    ∧ ∀ c, s.activeContext = some c →
      (0 < c.inTransit → ∃ t, s.Answers .forceDepositEnd q Answer.done (State.swappedIfPending
          { s.taken rest with dpu := { s.dpu with contexts := s.dpu.contexts.map (fun x => if x.seq = c.seq then
              { x with state := .draining, endKind := some .forced, closeGen := some s.tbs.generation } else x) } }) t)
      ∧ (c.inTransit = 0 → ∃ t, s.Answers .forceDepositEnd q Answer.done (State.swappedIfPending
          { s.taken rest with dpu := { s.dpu with contexts := s.dpu.contexts.filter (fun x => x.seq != c.seq) } }) t
        ∧ t.dpu.completion = s.dpu.completion ++ [c.seq]
        ∧ { c with state := .recordPending, endKind := some .forced, closeGen := some s.tbs.generation }
            ∈ t.dpu.contexts
        ∧ ∀ k, (s.pocket k).isPure = true → (s.pocket k).state = .open ∨ (s.pocket k).state = .full →
            (s.pocket k).contributions.map Contribution.deposit = [c.seq] →
            (0 < (s.pocket k).committed → (t.pocket k).state = .closing)
            ∧ ((s.pocket k).committed = 0 → 0 < (s.pocket k).held →
                ((s.pocket k).isStrapped = true ∨ (s.pocket k).emptyEye = true →
                  (t.pocket k).short = ((s.pocket k).short || decide ((s.pocket k).held < (s.pocket k).limit))
                  ∧ (t.pocket k).held = (s.pocket k).held)
                ∧ ((s.pocket k).isStrapped = true → (t.pocket k).state = .complete)
                ∧ ((s.pocket k).isLoose = true → (s.pocket k).emptyEye = true → (t.pocket k).state = .awaitingRemoval)))

/-- R105 to R108: the deposit boundary of a separator card that finds a deposit with notes in transit, or none. -/
def Obligations.CardBoundary : Prop :=
  ∀ (s ended : State) (card : Option Nat) (field : CardField), (s.dpu.contexts.map Context.seq).Nodup →
    (s.activeContext = none → ended = s) →
    (∀ c kind, s.activeContext = some c → 0 < c.inTransit → kind = (if field = .number 0 then EndKind.endCard else .card) →
      ended = { s with dpu := { s.dpu with contexts := s.dpu.contexts.map (fun x => if x.seq = c.seq then
        { x with state := .draining, endKind := some kind, closeGen := some s.tbs.generation } else x) } }) →
    (∀ c, s.activeContext = some c → 0 < c.inTransit) →
    (field = .number 0 → s.boundary field = ended)
    ∧ ((field = .unreadable ∧ card = none) ∨ (∃ n, field = .number (n + 1) ∧ card = some (n + 1)) →
      (4 ≤ s.dpu.contexts.length → s.boundary field = ended.haltCause .noDepositContext)
      ∧ (s.dpu.contexts.length < 4 → ∀ found, found = s.declarationFor card →
        (s.boundary field).dpu = { ended.dpu with
          contexts := ended.dpu.contexts ++ [Context.opened s.dpu.nextDeposit card found]
          nextDeposit := if s.dpu.nextDeposit < 65535 then s.dpu.nextDeposit + 1 else 1
          declarations := s.dpu.declarations.filter (fun d => some d.card != card) }
        ∧ (found = none → (s.boundary field).pendingHas .declarationMissing = true)
        ∧ (s.dpu.contexts.length = 3 → (s.boundary field).held .contextShortage = true
            ∧ (s.boundary field).pendingHas .contextShortage = true)
        ∧ (s.boundary field).trk = s.trk ∧ (s.boundary field).tbs = s.tbs ∧ (s.boundary field).pkm = s.pkm
        ∧ (s.boundary field).lsv.line = s.lsv.line))

/-- R144, R145, R133, Table 8-3: LINE_CONTROL RUN and STOP. -/
def Obligations.LineRunStop : Prop :=
  ∀ (s : State) (q : QueuedCommand) (rest : List QueuedCommand), s.Quiet → q.broadcast = false →
    (s.Due .lineControlRun q rest →
      (s.lsv.line = .ready ∨ s.lsv.line = .drain → ∃ t, s.Answers .lineControlRun q Answer.done
        { s.taken rest with lsv := { s.lsv with line := .run, holds := s.lsv.holds &&& ~~~1#8 } } t)
      ∧ (s.lsv.line = .run → exec .lineControlRun s = .next (s.concluded q rest Answer.done))
      ∧ (s.lsv.line = .standby ∨ s.lsv.line.isHalt = true →
        exec .lineControlRun s = .next (s.concluded q rest (refusal .state 0))))
    ∧ (s.Due .lineControlStop q rest →
      (s.lsv.line = .run → s.trk.queue ≠ [] → exec .lineControlStop s = .next (State.concluded q rest Answer.done
        { s with lsv := { s.lsv with line := .drain, holds := s.lsv.holds ||| 1#8 } }))
      ∧ (s.lsv.line = .run → s.trk.queue = [] → ∃ t, s.Answers .lineControlStop q Answer.done (State.swappedIfPending
        { s.taken rest with lsv := { s.lsv with line := .ready, holds := s.lsv.holds ||| 1#8 } }) t)
      ∧ (s.lsv.line = .ready ∨ s.lsv.line = .drain →
        exec .lineControlStop s = .next (s.concluded q rest Answer.done))
      ∧ (s.lsv.line = .standby ∨ s.lsv.line.isHalt = true →
        exec .lineControlStop s = .next (s.concluded q rest (refusal .state 0))))

/-- R150, R154, R133, Table 8-3: LINE_CONTROL HALT and RESUME. -/
def Obligations.LineHaltResume : Prop :=
  ∀ (s : State) (q : QueuedCommand) (rest : List QueuedCommand), s.Quiet → q.broadcast = false →
    (s.Due .lineControlHalt q rest →
      (s.lsv.line = .standby → exec .lineControlHalt s = .next (s.concluded q rest (refusal .state 0)))
      ∧ (s.lsv.line ≠ .standby →
        ∃ t, s.Answers .lineControlHalt q Answer.done ((s.taken rest).haltCause .command) t))
    ∧ (s.Due .lineControlResume q rest →
      (s.lsv.line ≠ .haltStopped → exec .lineControlResume s = .next (s.concluded q rest (refusal .state 0)))
      ∧ (s.lsv.line = .haltStopped → ∃ t, s.Answers .lineControlResume q Answer.done (State.swappedIfPending
        { s.taken rest with lsv := { s.lsv with
            line := .ready, stopRequest := false, reason := none, further := 0 } }) t))

/-- R97, R122, R123, R155: LINE_CONTROL CLEAR. -/
def Obligations.LineClear : Prop :=
  ∀ (s : State) (q : QueuedCommand) (rest : List QueuedCommand), s.Quiet → s.Due .lineControlClear q rest →
    q.broadcast = false →
    ((s.lsv.line ≠ .ready ∧ s.lsv.line ≠ .haltStopped) ∨ (∃ k, (s.pocket k).record ≠ none) →
      exec .lineControlClear s = .next (s.concluded q rest (refusal .state 0)))
    ∧ (s.lsv.line = .ready ∨ s.lsv.line = .haltStopped → (∀ k, (s.pocket k).record = none) →
      ∃ t, exec .lineControlClear s = .next t ∧ s.Replied q Answer.done t
        ∧ t.trk = s.trk ∧ t.idu = s.idu ∧ t.rte = s.rte ∧ t.gdr = s.gdr ∧ t.evu.counters = s.evu.counters
        ∧ t.lsv.line = s.lsv.line ∧ t.lsv.reason = s.lsv.reason ∧ t.lsv.further = s.lsv.further
        ∧ t.lsv.stopRequest = s.lsv.stopRequest ∧ t.tbs = (s.swappedIfPending).tbs
        ∧ t.dpu = { s.dpu with
            contexts := s.dpu.contexts.map (fun c => if c.state = .recordPending then c else { c with
              state := .recordPending, endKind := some .aborted,
              closeGen := if c.state = .active then some s.tbs.generation else c.closeGen,
              inDoubt := c.inDoubt + c.inTransit, inTransit := 0 })
            completion := s.dpu.completion ++
              (s.dpu.contexts.filter (fun c => decide (c.state ≠ .recordPending))).map Context.seq
            declarations := [] }
        ∧ (∀ k, (t.pocket k).committed = (s.pocket k).committed)
        ∧ ∀ k, (s.pocket k).state ≠ .disabled →
            (t.pocket k).held = 0 ∧ (t.pocket k).strapOrder = none ∧ (t.pocket k).strapTimer = none
            ∧ (0 < (s.pocket k).held → (t.pocket k).record = some (Pocket.bundleRecord .cleared
                { s.pocket k with short := (s.pocket k).short || decide ((s.pocket k).held < (s.pocket k).limit) }))
            ∧ (0 < (s.pocket k).committed → (t.pocket k).state = .fault)
            ∧ ((s.pocket k).committed = 0 → (s.pocket k).emptyEye = true → s.tbs.swapPending = false →
                (t.pocket k).state = .unaccounted ∧ (t.pocket k).unaccounted = true))

/-- R90, R92: POCKET_CONTROL INHIBIT, RELEASE and CLOSE_SHORT: what each does, and where it is refused. -/
def Obligations.PocketModes : Prop :=
  ∀ (s : State) (q : QueuedCommand) (rest : List QueuedCommand) (row : Instr), s.Quiet → q.broadcast = false →
    s.Due row q rest → row ∈ [.pocketControlInhibit, .pocketControlRelease, .pocketControlCloseShort] →
    ((byteAt q.payload 1 = 0 ∨ 16 < (byteAt q.payload 1).toNat) →
      exec row s = .next (s.concluded q rest (refusal .badIndex 0)))
    ∧ ∀ (k : PocketNo), (byteAt q.payload 1).toNat = k.val + 1 →
      ((row ≠ .pocketControlRelease ∧ (k = pocket1 ∨ ((s.pocket k).state ≠ .open ∧ (s.pocket k).state ≠ .full)))
          ∨ (row = .pocketControlRelease ∧ (s.pocket k).state ≠ .inhibited) →
        exec row s = .next (s.concluded q rest (refusal .state 0)))
      ∧ (row = .pocketControlInhibit → k ≠ pocket1 → (s.pocket k).state = .open ∨ (s.pocket k).state = .full →
        exec row s = .next (State.concluded q rest Answer.done { s with pkm := { s.pkm with
          pockets := s.pkm.pockets.set k { s.pkm.pockets[k] with state := .inhibited } } }))
      ∧ (row = .pocketControlCloseShort → k ≠ pocket1 → (s.pocket k).state = .open ∨ (s.pocket k).state = .full →
        ∃ t, s.Answers row q Answer.done (s.taken rest) t
          ∧ (0 < (s.pocket k).committed → (t.pocket k).state = .closing)
          ∧ ((s.pocket k).committed = 0 → 0 < (s.pocket k).held → (s.pocket k).isStrapped = true →
              (t.pocket k).state = .complete
              ∧ (t.pocket k).short = ((s.pocket k).short || decide ((s.pocket k).held < (s.pocket k).limit)))
          ∧ ((s.pocket k).committed = 0 → 0 < (s.pocket k).held → (s.pocket k).isLoose = true →
              (s.pocket k).emptyEye = true → (t.pocket k).state = .awaitingRemoval)
          ∧ ((s.pocket k).committed = 0 → (s.pocket k).held = 0 → (s.pocket k).changeover = false →
              0 < (s.pocket k).limit → (t.pocket k).state = .open))
      ∧ (row = .pocketControlRelease → (s.pocket k).state = .inhibited → (s.pocket k).changeover = false →
        ∃ t, s.Answers row q Answer.done (s.taken rest) t
          ∧ ((s.pocket k).committed + (s.pocket k).held < (s.pocket k).limit →
              (s.pocket k).isStrapped = true ∨ (s.pocket k).emptyEye = true ∨ 0 < (s.pocket k).committed →
              (t.pocket k).state = .open
              ∧ ∀ c : ClassNo, k ∈ s.tbs.active.classes[c].pockets → setHas t.pkm.blocked c.val = false)
          ∧ ((s.pocket k).committed + (s.pocket k).held = (s.pocket k).limit → 0 < (s.pocket k).committed →
              (t.pocket k).state = .full)
          ∧ ((s.pocket k).committed = 0 → (s.pocket k).held = (s.pocket k).limit → 0 < (s.pocket k).held →
              (s.pocket k).isStrapped = true → (t.pocket k).state = .complete))

/-- R94, Table 5-5: POCKET_CONTROL CLEAR. -/
def Obligations.PocketClear : Prop :=
  ∀ (s : State) (q : QueuedCommand) (rest : List QueuedCommand), s.Quiet → q.broadcast = false →
    s.Due .pocketControlClear q rest →
    ((byteAt q.payload 1 = 0 ∨ 16 < (byteAt q.payload 1).toNat) →
      exec .pocketControlClear s = .next (s.concluded q rest (refusal .badIndex 0)))
    ∧ ∀ (k : PocketNo), (byteAt q.payload 1).toNat = k.val + 1 →
      ((s.pocket k).state ≠ .fault → (s.pocket k).state ≠ .unaccounted →
        exec .pocketControlClear s = .next (s.concluded q rest (refusal .state 0)))
      ∧ ((s.pocket k).state = .fault ∨ (s.pocket k).state = .unaccounted → (s.pocket k).emptyEye = true →
        exec .pocketControlClear s = .next (s.concluded q rest (refusal .eyeNotEmpty 0)))
      ∧ ((s.pocket k).state = .fault → (s.pocket k).emptyEye = false →
          0 < (s.pocket k).committed ∨ (s.pocket k).record ≠ none →
        exec .pocketControlClear s = .next (s.concluded q rest (refusal .state 0)))
      ∧ ((s.pocket k).state = .fault → (s.pocket k).emptyEye = false → (s.pocket k).committed = 0 →
          (s.pocket k).record = none → (s.pocket k).changeover = false → ∀ cls kind pure limit,
          (s.pocket k).assignment = some { cls := cls, kind := kind, pure := pure } →
          limit = (match kind with
            | .strapped size => size
            | .loose capacity allowance =>
              if (s.pocket k).stackEye then min capacity allowance else capacity) → 0 < limit →
        ∃ t, exec .pocketControlClear s = .next t ∧ s.Replied q Answer.done t ∧ t.RestKept (s.taken rest)
          ∧ t.LineKept s ∧ t.evu.counters = s.evu.counters
          ∧ (t.pocket k).state = .open ∧ (t.pocket k).limit = limit ∧ (t.pocket k).held = 0
          ∧ (t.pocket k).unaccounted = false
          ∧ (∀ c : ClassNo, k ∈ s.tbs.active.classes[c].pockets → setHas t.pkm.blocked c.val = false)
          ∧ (0 < (s.pocket k).held → (t.pocket k).record = some ((s.pocket k).bundleRecord .discardedFault))
          ∧ ((s.pocket k).held = 0 → (t.pocket k).record = none))
      ∧ ((s.pocket k).state = .unaccounted → (s.pocket k).emptyEye = false → (s.pocket k).changeover = false →
          (s.pocket k).committed + (s.pocket k).held < (s.pocket k).limit →
        ∃ t, exec .pocketControlClear s = .next t ∧ s.Replied q Answer.done t ∧ t.RestKept (s.taken rest)
          ∧ t.LineKept s ∧ t.evu.counters = s.evu.counters
          ∧ (t.pocket k).state = .open ∧ (t.pocket k).unaccounted = false ∧ (t.pocket k).record = (s.pocket k).record)

/-- R22, R157, R175, R176: INTAKE_RESTART, COUNTERS_CLEAR, and FEED_HOLD, addressed or broadcast. -/
def Obligations.HoldsAndCounters : Prop :=
  ∀ (s : State) (q : QueuedCommand) (rest : List QueuedCommand) (u : State), s.Quiet →
    (s.Due .feedHoldSet q rest → u = { s with lsv := { s.lsv with holds := s.lsv.holds ||| 128#8 } } →
      exec .feedHoldSet s = .next (if q.broadcast then u.concludedQuietly rest else u.concluded q rest Answer.done))
    ∧ (s.Due .feedHoldClear q rest → u = { s with lsv := { s.lsv with holds := s.lsv.holds &&& ~~~128#8 } } →
      exec .feedHoldClear s = .next (if q.broadcast then u.concludedQuietly rest else u.concluded q rest Answer.done))
    ∧ (s.Due .intakeRestart q rest → q.broadcast = false → q.payload = [] →
        u = { s with
          idu := { s.idu with overrun := false }
          lsv := { s.lsv with holds := s.lsv.holds &&& ~~~4#8 } } →
      exec .intakeRestart s = .next (u.concluded q rest Answer.done))
    ∧ (s.Due .countersClear q rest → q.broadcast = false → q.payload = [] →
        u = { s with
          evu := { s.evu with counters := Vector.replicate 13 0 }
          rte := { hits := Vector.replicate 32 0, lastHit := none } } →
      exec .countersClear s = .next (u.concluded q rest Answer.done))

/-- R176, R186, R187: EVENT_ENABLE and EVENT_CLEAR. -/
def Obligations.EventSets : Prop :=
  ∀ (s : State) (q : QueuedCommand) (rest : List QueuedCommand) (flag hi lo : Byte) (named : BitVec 16)
    (after : BitVec 16 → BitVec 16 → State), s.Quiet → q.broadcast = false → named = hi ++ lo →
    (∀ pending enable, after pending enable = State.concluded q rest Answer.done { s with evu := { s.evu with
      pending := pending, enable := enable, attn := decide (pending &&& enable ≠ 0),
      owed := decide (pending &&& enable ≠ 0)
        && (s.evu.owed || decide ((pending &&& enable) &&& ~~~(s.evu.pending &&& s.evu.enable) ≠ 0)) } }) →
    (s.Due .eventEnableSet q rest → q.payload = [flag, hi, lo] →
      exec .eventEnableSet s = .next (after s.evu.pending (s.evu.enable ||| named)))
    ∧ (s.Due .eventEnableClear q rest → q.payload = [flag, hi, lo] →
      exec .eventEnableClear s = .next (after s.evu.pending (s.evu.enable &&& ~~~named)))
    ∧ (s.Due .eventClear q rest → q.payload = [hi, lo] →
      exec .eventClear s = .next (after (s.evu.pending &&& ~~~named) s.evu.enable))

/-- R87, R177 to R182: each STATUS_QUERY answers DONE with its page and changes nothing, but that POCKET clears the deltas
of the pocket it reports. -/
def Obligations.StatusQueries : Prop :=
  ∀ (s : State) (q : QueuedCommand) (rest : List QueuedCommand), s.Quiet → q.broadcast = false →
    (s.Due .statusQueryLine q rest →
      exec .statusQueryLine s = .next (s.concluded q rest (pageAnswer (s.taken rest).linePage)))
    ∧ (s.Due .statusQueryDeposits q rest →
      exec .statusQueryDeposits s = .next (s.concluded q rest (pageAnswer s.depositsPage)))
    ∧ (s.Due .statusQueryTransit q rest →
      exec .statusQueryTransit s = .next (s.concluded q rest (pageAnswer s.transitPage)))
    ∧ (s.Due .statusQueryCounters q rest →
      exec .statusQueryCounters s = .next (s.concluded q rest (pageAnswer s.countersPage)))
    ∧ (s.Due .statusQueryWatch q rest →
      exec .statusQueryWatch s = .next (s.concluded q rest (pageAnswer s.watchPage)))
    ∧ (s.Due .statusQueryPocket q rest →
      (byteAt q.payload 1 = 0 ∨ 16 < (byteAt q.payload 1).toNat →
        exec .statusQueryPocket s = .next (s.concluded q rest (refusal .badIndex 0)))
      ∧ ∀ k : PocketNo, (byteAt q.payload 1).toNat = k.val + 1 →
        exec .statusQueryPocket s = .next (State.concluded q rest (pageAnswer (s.pocketPage k))
          { s with pkm := { s.pkm with
            pockets := s.pkm.pockets.set k { s.pkm.pockets[k] with emptyDelta := false, stackDelta := false } } }))

/-- R194: the sizes of the pages, their page code included. -/
def Obligations.PageSizes : Prop :=
  ∀ s : State,
    s.linePage.length = 225 ∧ s.countersPage.length = 27
      ∧ (∀ k, (s.pocketPage k).length = 37 + 5 * (s.pocket k).contributions.length)
      ∧ s.transitPage.length = 9 + 18 * s.trk.queue.length
      ∧ s.depositsPage.length = 6 + 2 * s.dpu.completion.length + 4 * s.dpu.declarations.length
          + 37 * s.dpu.contexts.length
      ∧ ((∀ h, s.rte.lastHit = some h → h.serial.length ≤ 12) → s.watchPage.length = 52)

/-! ## Accounts (chapters 5 and 6) -/

/-- R116: a credit adds decimally and stands at 99,999,999,999,999 once it would pass it. -/
def Obligations.CreditAdds : Prop :=
  ∀ (v : Digits) (face : Nat), v.length = 14 → face ≤ 99999999 →
    (digitsValue (creditValue v false face).1 = min (digitsValue v + face) 99999999999999
      ∧ ((creditValue v false face).2 = true ↔ 99999999999999 < digitsValue v + face)
      ∧ (creditValue v false face).1.length = 14)
    ∧ creditValue v true face = (v, true)

/-- R119, Table 6-5: the outcome and the difference of a deposit. R120, Table 6-6: its qualifiers, bit by bit. -/
def Obligations.DepositOutcome : Prop :=
  (∀ c : Context, c.value.length = 14 →
    (c.declaration = none → c.declaredValue = zeroValue) ∧ (∀ d, c.declaration = some d → c.declaredValue = d.value)
    ∧ (c.valueSaturated = true → c.outcome = (.saturated, zeroValue))
    ∧ (c.valueSaturated = false → c.declaration = none → c.outcome = (.undeclared, zeroValue))
    ∧ ∀ d, c.valueSaturated = false → c.declaration = some d → d.value.length = 14 →
        (digitsValue c.value = digitsValue d.value → c.outcome = (.balanced, zeroValue))
        ∧ (digitsValue d.value < digitsValue c.value → c.outcome.1 = .over
            ∧ digitsValue c.outcome.2 = digitsValue c.value - digitsValue d.value ∧ c.outcome.2.length = 14)
        ∧ (digitsValue c.value < digitsValue d.value → c.outcome.1 = .short
            ∧ digitsValue c.outcome.2 = digitsValue d.value - digitsValue c.value ∧ c.outcome.2.length = 14))
  ∧ ∀ c : Context,
    (setHas c.qualifiers 0 = true ↔ 0 < c.held) ∧ (setHas c.qualifiers 1 = true ↔ 0 < c.inDoubt)
    ∧ (setHas c.qualifiers 2 = true ↔ ∃ i : Fin 13, 0 < c.rejects[i])
    ∧ (setHas c.qualifiers 3 = true ↔ ∃ d i n, c.declaration = some d ∧ (i, n) ∈ d.counts ∧ n ≠ c.credited[(i : Fin 16)])
    ∧ (setHas c.qualifiers 4 = true ↔ c.countSaturated = true)
    ∧ (setHas c.qualifiers 5 = true ↔ c.endKind = some .forced)
    ∧ (setHas c.qualifiers 6 = true ↔ c.endKind = some .aborted) ∧ setHas c.qualifiers 7 = false

/-- R111 to R115: every step keeps every deposit's account: assigned is credited, held, rejected, in doubt and in transit together,
and in transit is the number of the queue's entries of the deposit. The sequences given out next name nothing in use (log
entry 26). Before it, the same of one context: at its opening, at a delivery and at line clear. -/
def Obligations.DepositAccount : Prop :=
  (∀ seq card found, (Context.opening seq card found).Balanced)
  ∧ (∀ (c : Context) (e : Entry) (gen : Nat), c.Balanced →
    (Context.abort gen c).Balanced
    ∧ (0 < c.inTransit →
        ((∃ k, e.destination = some (.cls k)) ∨ e.destination = some .hold
          ∨ (∃ r i, e.destination = some (.reject r) ∧ r.countIndex = some i) → (Context.deliver e c).Balanced)
        ∧ (c.counting = true → (Context.abort gen c).inTransit = 0
            ∧ (Context.abort gen c).inDoubt = c.inDoubt + c.inTransit)))
  ∧ ∀ s t : State, s.AccountsHold →
    (∀ e ∈ s.trk.queue, e.seq ≠ s.trk.nextSeq ∧ e.deposit ≠ some s.dpu.nextDeposit) →
    (∀ c ∈ s.dpu.contexts, c.seq ≠ s.dpu.nextDeposit) → step s = .next t → t.AccountsHold

/-- R73 to R76, R78, R95, Table 4-2: a pocket's counts and its contribution list stay in step, and a bundle record's count is
the sum of its list, which names no deposit twice. -/
def Obligations.PocketAccount : Prop :=
  ∀ (p : Pocket) (b : Bank) (k : PocketNo) (d next : Nat) (card : Bool) (st : BundleStatus), p.Balanced →
    p.contributions.length ≤ 8 →
    ((p.bundleRecord st).count = (p.bundleRecord st).listedSum ∧ (p.bundleRecord st).pairs.length ≤ 8
        ∧ ((p.bundleRecord st).pairs.map Prod.fst).Nodup ∧ (p.issue st next).Balanced ∧ (p.issue st next).held = 0)
    ∧ (hasPlace d p.contributions = true ∨ k = pocket1 → (p.commit k d next).Balanced
        ∧ (p.commit k d next).committed = p.committed + 1 ∧ (p.commit k d next).held = p.held
        ∧ (p.commit k d next).bundle = some (p.bundle.getD next))
    ∧ ((∃ c ∈ p.contributions, c.deposit = d ∧ 0 < c.committed)
          ∨ (k = pocket1 ∧ (∀ c ∈ p.contributions, c.deposit ≠ d) ∧ 0 < p.unlistedCommitted) →
        (p.withdraw b k d).Balanced ∧ (p.withdraw b k d).committed + 1 = p.committed ∧ (p.withdraw b k d).held = p.held
        ∧ (p.deliver b k d card).Balanced ∧ (p.deliver b k d card).committed + 1 = p.committed
        ∧ (p.deliver b k d card).held = p.held + 1)
end

