-- ==== Sys2Proof/Laws/State.lean ====
section
/-! SUPPORT. One small lemma per field and plain update of the state, each true by unfolding; and the pocket read after a
pocket is stored. -/

namespace Sys2Proof.Machine


/-! ### raise -/

@[simp] theorem State.raise_trk (k : EventKind) (s : State) : (s.raise k).trk = s.trk := rfl
@[simp] theorem State.raise_idu (k : EventKind) (s : State) : (s.raise k).idu = s.idu := rfl
@[simp] theorem State.raise_rte (k : EventKind) (s : State) : (s.raise k).rte = s.rte := rfl
@[simp] theorem State.raise_pkm (k : EventKind) (s : State) : (s.raise k).pkm = s.pkm := rfl
@[simp] theorem State.raise_gdr (k : EventKind) (s : State) : (s.raise k).gdr = s.gdr := rfl
@[simp] theorem State.raise_dpu (k : EventKind) (s : State) : (s.raise k).dpu = s.dpu := rfl
@[simp] theorem State.raise_tbs (k : EventKind) (s : State) : (s.raise k).tbs = s.tbs := rfl
@[simp] theorem State.raise_lsv (k : EventKind) (s : State) : (s.raise k).lsv = s.lsv := rfl
@[simp] theorem State.raise_lnk (k : EventKind) (s : State) : (s.raise k).lnk = s.lnk := rfl
@[simp] theorem State.raise_cmp (k : EventKind) (s : State) : (s.raise k).cmp = s.cmp := rfl
@[simp] theorem State.raise_evu_pending (k : EventKind) (s : State) : (s.raise k).evu.pending = setAdd s.evu.pending k.code := rfl
@[simp] theorem State.raise_evu_enable (k : EventKind) (s : State) : (s.raise k).evu.enable = s.evu.enable := rfl
@[simp] theorem State.raise_evu_frameNumber (k : EventKind) (s : State) : (s.raise k).evu.frameNumber = s.evu.frameNumber := rfl
@[simp] theorem State.raise_evu_counters (k : EventKind) (s : State) : (s.raise k).evu.counters = s.evu.counters := rfl
@[simp] theorem State.raise_pending (k : EventKind) (s : State) : (s.raise k).pending = s.pending := rfl

/-! ### bump -/

@[simp] theorem State.bump_trk (c : Counter) (s : State) : (s.bump c).trk = s.trk := rfl
@[simp] theorem State.bump_idu (c : Counter) (s : State) : (s.bump c).idu = s.idu := rfl
@[simp] theorem State.bump_rte (c : Counter) (s : State) : (s.bump c).rte = s.rte := rfl
@[simp] theorem State.bump_pkm (c : Counter) (s : State) : (s.bump c).pkm = s.pkm := rfl
@[simp] theorem State.bump_gdr (c : Counter) (s : State) : (s.bump c).gdr = s.gdr := rfl
@[simp] theorem State.bump_dpu (c : Counter) (s : State) : (s.bump c).dpu = s.dpu := rfl
@[simp] theorem State.bump_tbs (c : Counter) (s : State) : (s.bump c).tbs = s.tbs := rfl
@[simp] theorem State.bump_lsv (c : Counter) (s : State) : (s.bump c).lsv = s.lsv := rfl
@[simp] theorem State.bump_lnk (c : Counter) (s : State) : (s.bump c).lnk = s.lnk := rfl
@[simp] theorem State.bump_cmp (c : Counter) (s : State) : (s.bump c).cmp = s.cmp := rfl
@[simp] theorem State.bump_evu_pending (c : Counter) (s : State) : (s.bump c).evu.pending = s.evu.pending := rfl
@[simp] theorem State.bump_evu_enable (c : Counter) (s : State) : (s.bump c).evu.enable = s.evu.enable := rfl
@[simp] theorem State.bump_evu_owed (c : Counter) (s : State) : (s.bump c).evu.owed = s.evu.owed := rfl
@[simp] theorem State.bump_evu_attn (c : Counter) (s : State) : (s.bump c).evu.attn = s.evu.attn := rfl
@[simp] theorem State.bump_evu_frameNumber (c : Counter) (s : State) : (s.bump c).evu.frameNumber = s.evu.frameNumber := rfl
@[simp] theorem State.bump_evu_counters (c : Counter) (s : State) : (s.bump c).evu.counters = s.evu.counters.set c.index (min (s.evu.counters[c.index] + 1) 65535) := rfl
@[simp] theorem State.bump_pending (c : Counter) (s : State) : (s.bump c).pending = s.pending := rfl

/-! ### hold -/

@[simp] theorem State.hold_trk (r : FeedReason) (s : State) : (s.hold r).trk = s.trk := rfl
@[simp] theorem State.hold_idu (r : FeedReason) (s : State) : (s.hold r).idu = s.idu := rfl
@[simp] theorem State.hold_rte (r : FeedReason) (s : State) : (s.hold r).rte = s.rte := rfl
@[simp] theorem State.hold_pkm (r : FeedReason) (s : State) : (s.hold r).pkm = s.pkm := rfl
@[simp] theorem State.hold_gdr (r : FeedReason) (s : State) : (s.hold r).gdr = s.gdr := rfl
@[simp] theorem State.hold_dpu (r : FeedReason) (s : State) : (s.hold r).dpu = s.dpu := rfl
@[simp] theorem State.hold_tbs (r : FeedReason) (s : State) : (s.hold r).tbs = s.tbs := rfl
@[simp] theorem State.hold_lsv_line (r : FeedReason) (s : State) : (s.hold r).lsv.line = s.lsv.line := rfl
@[simp] theorem State.hold_lsv_reason (r : FeedReason) (s : State) : (s.hold r).lsv.reason = s.lsv.reason := rfl
@[simp] theorem State.hold_lsv_further (r : FeedReason) (s : State) : (s.hold r).lsv.further = s.lsv.further := rfl
@[simp] theorem State.hold_lsv_stopRequest (r : FeedReason) (s : State) : (s.hold r).lsv.stopRequest = s.lsv.stopRequest := rfl
@[simp] theorem State.hold_lsv_running (r : FeedReason) (s : State) : (s.hold r).lsv.running = s.lsv.running := rfl
@[simp] theorem State.hold_lsv_stopScheduled (r : FeedReason) (s : State) : (s.hold r).lsv.stopScheduled = s.lsv.stopScheduled := rfl
@[simp] theorem State.hold_lsv_idleMark (r : FeedReason) (s : State) : (s.hold r).lsv.idleMark = s.lsv.idleMark := rfl
@[simp] theorem State.hold_lsv_idleReached (r : FeedReason) (s : State) : (s.hold r).lsv.idleReached = s.lsv.idleReached := rfl
@[simp] theorem State.hold_lsv_idleRaised (r : FeedReason) (s : State) : (s.hold r).lsv.idleRaised = s.lsv.idleRaised := rfl
@[simp] theorem State.hold_lsv_holds (r : FeedReason) (s : State) : (s.hold r).lsv.holds = setAdd s.lsv.holds r.code := rfl
@[simp] theorem State.hold_lnk (r : FeedReason) (s : State) : (s.hold r).lnk = s.lnk := rfl
@[simp] theorem State.hold_cmp (r : FeedReason) (s : State) : (s.hold r).cmp = s.cmp := rfl
@[simp] theorem State.hold_evu (r : FeedReason) (s : State) : (s.hold r).evu = s.evu := rfl
@[simp] theorem State.hold_pending (r : FeedReason) (s : State) : (s.hold r).pending = s.pending := rfl

/-! ### release -/

@[simp] theorem State.release_trk (r : FeedReason) (s : State) : (s.release r).trk = s.trk := rfl
@[simp] theorem State.release_idu (r : FeedReason) (s : State) : (s.release r).idu = s.idu := rfl
@[simp] theorem State.release_rte (r : FeedReason) (s : State) : (s.release r).rte = s.rte := rfl
@[simp] theorem State.release_pkm (r : FeedReason) (s : State) : (s.release r).pkm = s.pkm := rfl
@[simp] theorem State.release_gdr (r : FeedReason) (s : State) : (s.release r).gdr = s.gdr := rfl
@[simp] theorem State.release_dpu (r : FeedReason) (s : State) : (s.release r).dpu = s.dpu := rfl
@[simp] theorem State.release_tbs (r : FeedReason) (s : State) : (s.release r).tbs = s.tbs := rfl
@[simp] theorem State.release_lsv_line (r : FeedReason) (s : State) : (s.release r).lsv.line = s.lsv.line := rfl
@[simp] theorem State.release_lsv_reason (r : FeedReason) (s : State) : (s.release r).lsv.reason = s.lsv.reason := rfl
@[simp] theorem State.release_lsv_further (r : FeedReason) (s : State) : (s.release r).lsv.further = s.lsv.further := rfl
@[simp] theorem State.release_lsv_stopRequest (r : FeedReason) (s : State) : (s.release r).lsv.stopRequest = s.lsv.stopRequest := rfl
@[simp] theorem State.release_lsv_running (r : FeedReason) (s : State) : (s.release r).lsv.running = s.lsv.running := rfl
@[simp] theorem State.release_lsv_stopScheduled (r : FeedReason) (s : State) : (s.release r).lsv.stopScheduled = s.lsv.stopScheduled := rfl
@[simp] theorem State.release_lsv_idleMark (r : FeedReason) (s : State) : (s.release r).lsv.idleMark = s.lsv.idleMark := rfl
@[simp] theorem State.release_lsv_idleReached (r : FeedReason) (s : State) : (s.release r).lsv.idleReached = s.lsv.idleReached := rfl
@[simp] theorem State.release_lsv_idleRaised (r : FeedReason) (s : State) : (s.release r).lsv.idleRaised = s.lsv.idleRaised := rfl
@[simp] theorem State.release_lsv_holds (r : FeedReason) (s : State) : (s.release r).lsv.holds = setDrop s.lsv.holds r.code := rfl
@[simp] theorem State.release_lnk (r : FeedReason) (s : State) : (s.release r).lnk = s.lnk := rfl
@[simp] theorem State.release_cmp (r : FeedReason) (s : State) : (s.release r).cmp = s.cmp := rfl
@[simp] theorem State.release_evu (r : FeedReason) (s : State) : (s.release r).evu = s.evu := rfl
@[simp] theorem State.release_pending (r : FeedReason) (s : State) : (s.release r).pending = s.pending := rfl

/-! ### storePocket -/

@[simp] theorem State.storePocket_trk (k : PocketNo) (p : Pocket) (s : State) : (s.storePocket k p).trk = s.trk := rfl
@[simp] theorem State.storePocket_idu (k : PocketNo) (p : Pocket) (s : State) : (s.storePocket k p).idu = s.idu := rfl
@[simp] theorem State.storePocket_rte (k : PocketNo) (p : Pocket) (s : State) : (s.storePocket k p).rte = s.rte := rfl
@[simp] theorem State.storePocket_pkm_pockets (k : PocketNo) (p : Pocket) (s : State) : (s.storePocket k p).pkm.pockets = s.pkm.pockets.set k p := rfl
@[simp] theorem State.storePocket_pkm_nextBundle (k : PocketNo) (p : Pocket) (s : State) : (s.storePocket k p).pkm.nextBundle = s.pkm.nextBundle := rfl
@[simp] theorem State.storePocket_pkm_blocked (k : PocketNo) (p : Pocket) (s : State) : (s.storePocket k p).pkm.blocked = s.pkm.blocked := rfl
@[simp] theorem State.storePocket_gdr (k : PocketNo) (p : Pocket) (s : State) : (s.storePocket k p).gdr = s.gdr := rfl
@[simp] theorem State.storePocket_dpu (k : PocketNo) (p : Pocket) (s : State) : (s.storePocket k p).dpu = s.dpu := rfl
@[simp] theorem State.storePocket_tbs (k : PocketNo) (p : Pocket) (s : State) : (s.storePocket k p).tbs = s.tbs := rfl
@[simp] theorem State.storePocket_lsv (k : PocketNo) (p : Pocket) (s : State) : (s.storePocket k p).lsv = s.lsv := rfl
@[simp] theorem State.storePocket_lnk (k : PocketNo) (p : Pocket) (s : State) : (s.storePocket k p).lnk = s.lnk := rfl
@[simp] theorem State.storePocket_cmp (k : PocketNo) (p : Pocket) (s : State) : (s.storePocket k p).cmp = s.cmp := rfl
@[simp] theorem State.storePocket_evu (k : PocketNo) (p : Pocket) (s : State) : (s.storePocket k p).evu = s.evu := rfl
@[simp] theorem State.storePocket_pending (k : PocketNo) (p : Pocket) (s : State) : (s.storePocket k p).pending = s.pending := rfl

/-! ### updateEntry -/

@[simp] theorem State.updateEntry_trk_position (q : Nat) (f : Entry → Entry) (s : State) : (s.updateEntry q f).trk.position = s.trk.position := rfl
@[simp] theorem State.updateEntry_trk_phase (q : Nat) (f : Entry → Entry) (s : State) : (s.updateEntry q f).trk.phase = s.trk.phase := rfl
@[simp] theorem State.updateEntry_trk_eye (q : Nat) (f : Entry → Entry) (s : State) : (s.updateEntry q f).trk.eye = s.trk.eye := rfl
@[simp] theorem State.updateEntry_trk_nextSeq (q : Nat) (f : Entry → Entry) (s : State) : (s.updateEntry q f).trk.nextSeq = s.trk.nextSeq := rfl
@[simp] theorem State.updateEntry_trk_queue (q : Nat) (f : Entry → Entry) (s : State) : (s.updateEntry q f).trk.queue = s.trk.queue.map (fun e => if e.seq = q then f e else e) := rfl
@[simp] theorem State.updateEntry_idu (q : Nat) (f : Entry → Entry) (s : State) : (s.updateEntry q f).idu = s.idu := rfl
@[simp] theorem State.updateEntry_rte (q : Nat) (f : Entry → Entry) (s : State) : (s.updateEntry q f).rte = s.rte := rfl
@[simp] theorem State.updateEntry_pkm (q : Nat) (f : Entry → Entry) (s : State) : (s.updateEntry q f).pkm = s.pkm := rfl
@[simp] theorem State.updateEntry_gdr (q : Nat) (f : Entry → Entry) (s : State) : (s.updateEntry q f).gdr = s.gdr := rfl
@[simp] theorem State.updateEntry_dpu (q : Nat) (f : Entry → Entry) (s : State) : (s.updateEntry q f).dpu = s.dpu := rfl
@[simp] theorem State.updateEntry_tbs (q : Nat) (f : Entry → Entry) (s : State) : (s.updateEntry q f).tbs = s.tbs := rfl
@[simp] theorem State.updateEntry_lsv (q : Nat) (f : Entry → Entry) (s : State) : (s.updateEntry q f).lsv = s.lsv := rfl
@[simp] theorem State.updateEntry_lnk (q : Nat) (f : Entry → Entry) (s : State) : (s.updateEntry q f).lnk = s.lnk := rfl
@[simp] theorem State.updateEntry_cmp (q : Nat) (f : Entry → Entry) (s : State) : (s.updateEntry q f).cmp = s.cmp := rfl
@[simp] theorem State.updateEntry_evu (q : Nat) (f : Entry → Entry) (s : State) : (s.updateEntry q f).evu = s.evu := rfl
@[simp] theorem State.updateEntry_pending (q : Nat) (f : Entry → Entry) (s : State) : (s.updateEntry q f).pending = s.pending := rfl

/-! ### updateContext -/

@[simp] theorem State.updateContext_trk (d : Nat) (f : Context → Context) (s : State) : (s.updateContext d f).trk = s.trk := rfl
@[simp] theorem State.updateContext_idu (d : Nat) (f : Context → Context) (s : State) : (s.updateContext d f).idu = s.idu := rfl
@[simp] theorem State.updateContext_rte (d : Nat) (f : Context → Context) (s : State) : (s.updateContext d f).rte = s.rte := rfl
@[simp] theorem State.updateContext_pkm (d : Nat) (f : Context → Context) (s : State) : (s.updateContext d f).pkm = s.pkm := rfl
@[simp] theorem State.updateContext_gdr (d : Nat) (f : Context → Context) (s : State) : (s.updateContext d f).gdr = s.gdr := rfl
@[simp] theorem State.updateContext_dpu_completion (d : Nat) (f : Context → Context) (s : State) : (s.updateContext d f).dpu.completion = s.dpu.completion := rfl
@[simp] theorem State.updateContext_dpu_declarations (d : Nat) (f : Context → Context) (s : State) : (s.updateContext d f).dpu.declarations = s.dpu.declarations := rfl
@[simp] theorem State.updateContext_dpu_nextDeposit (d : Nat) (f : Context → Context) (s : State) : (s.updateContext d f).dpu.nextDeposit = s.dpu.nextDeposit := rfl
@[simp] theorem State.updateContext_dpu_contexts (d : Nat) (f : Context → Context) (s : State) : (s.updateContext d f).dpu.contexts = s.dpu.contexts.map (fun c => if c.counting = true ∧ c.seq = d then f c else c) := rfl
@[simp] theorem State.updateContext_tbs (d : Nat) (f : Context → Context) (s : State) : (s.updateContext d f).tbs = s.tbs := rfl
@[simp] theorem State.updateContext_lsv (d : Nat) (f : Context → Context) (s : State) : (s.updateContext d f).lsv = s.lsv := rfl
@[simp] theorem State.updateContext_lnk (d : Nat) (f : Context → Context) (s : State) : (s.updateContext d f).lnk = s.lnk := rfl
@[simp] theorem State.updateContext_cmp (d : Nat) (f : Context → Context) (s : State) : (s.updateContext d f).cmp = s.cmp := rfl
@[simp] theorem State.updateContext_evu (d : Nat) (f : Context → Context) (s : State) : (s.updateContext d f).evu = s.evu := rfl
@[simp] theorem State.updateContext_pending (d : Nat) (f : Context → Context) (s : State) : (s.updateContext d f).pending = s.pending := rfl

/-! ### setGate -/

@[simp] theorem State.setGate_trk (k : PocketNo) (g : Gate) (s : State) : (s.setGate k g).trk = s.trk := rfl
@[simp] theorem State.setGate_idu (k : PocketNo) (g : Gate) (s : State) : (s.setGate k g).idu = s.idu := rfl
@[simp] theorem State.setGate_rte (k : PocketNo) (g : Gate) (s : State) : (s.setGate k g).rte = s.rte := rfl
@[simp] theorem State.setGate_pkm (k : PocketNo) (g : Gate) (s : State) : (s.setGate k g).pkm = s.pkm := rfl
@[simp] theorem State.setGate_gdr_gates (k : PocketNo) (g : Gate) (s : State) : (s.setGate k g).gdr.gates = s.gdr.gates.set k g := rfl
@[simp] theorem State.setGate_dpu (k : PocketNo) (g : Gate) (s : State) : (s.setGate k g).dpu = s.dpu := rfl
@[simp] theorem State.setGate_tbs (k : PocketNo) (g : Gate) (s : State) : (s.setGate k g).tbs = s.tbs := rfl
@[simp] theorem State.setGate_lsv (k : PocketNo) (g : Gate) (s : State) : (s.setGate k g).lsv = s.lsv := rfl
@[simp] theorem State.setGate_lnk (k : PocketNo) (g : Gate) (s : State) : (s.setGate k g).lnk = s.lnk := rfl
@[simp] theorem State.setGate_cmp (k : PocketNo) (g : Gate) (s : State) : (s.setGate k g).cmp = s.cmp := rfl
@[simp] theorem State.setGate_evu (k : PocketNo) (g : Gate) (s : State) : (s.setGate k g).evu = s.evu := rfl
@[simp] theorem State.setGate_pending (k : PocketNo) (g : Gate) (s : State) : (s.setGate k g).pending = s.pending := rfl

/-! ### emit -/

@[simp] theorem State.emit_trk (src : Source) (d kind corr : Byte) (p : List Byte) (s : State) : (s.emit src d kind corr p).trk = s.trk := rfl
@[simp] theorem State.emit_idu (src : Source) (d kind corr : Byte) (p : List Byte) (s : State) : (s.emit src d kind corr p).idu = s.idu := rfl
@[simp] theorem State.emit_rte (src : Source) (d kind corr : Byte) (p : List Byte) (s : State) : (s.emit src d kind corr p).rte = s.rte := rfl
@[simp] theorem State.emit_pkm (src : Source) (d kind corr : Byte) (p : List Byte) (s : State) : (s.emit src d kind corr p).pkm = s.pkm := rfl
@[simp] theorem State.emit_gdr (src : Source) (d kind corr : Byte) (p : List Byte) (s : State) : (s.emit src d kind corr p).gdr = s.gdr := rfl
@[simp] theorem State.emit_dpu (src : Source) (d kind corr : Byte) (p : List Byte) (s : State) : (s.emit src d kind corr p).dpu = s.dpu := rfl
@[simp] theorem State.emit_tbs (src : Source) (d kind corr : Byte) (p : List Byte) (s : State) : (s.emit src d kind corr p).tbs = s.tbs := rfl
@[simp] theorem State.emit_lsv (src : Source) (d kind corr : Byte) (p : List Byte) (s : State) : (s.emit src d kind corr p).lsv = s.lsv := rfl
@[simp] theorem State.emit_lnk_station (src : Source) (d kind corr : Byte) (p : List Byte) (s : State) : (s.emit src d kind corr p).lnk.station = s.lnk.station := rfl
@[simp] theorem State.emit_lnk_receiver (src : Source) (d kind corr : Byte) (p : List Byte) (s : State) : (s.emit src d kind corr p).lnk.receiver = s.lnk.receiver := rfl
@[simp] theorem State.emit_lnk_forward (src : Source) (d kind corr : Byte) (p : List Byte) (s : State) : (s.emit src d kind corr p).lnk.forward = s.lnk.forward := rfl
@[simp] theorem State.emit_lnk_slot (src : Source) (d kind corr : Byte) (p : List Byte) (s : State) : (s.emit src d kind corr p).lnk.slot = some { source := src, bytes := frameBytes d s.ownStation kind corr p } := rfl
@[simp] theorem State.emit_cmp (src : Source) (d kind corr : Byte) (p : List Byte) (s : State) : (s.emit src d kind corr p).cmp = s.cmp := rfl
@[simp] theorem State.emit_evu (src : Source) (d kind corr : Byte) (p : List Byte) (s : State) : (s.emit src d kind corr p).evu = s.evu := rfl
@[simp] theorem State.emit_pending (src : Source) (d kind corr : Byte) (p : List Byte) (s : State) : (s.emit src d kind corr p).pending = s.pending := rfl

/-! ### setReceiver -/

@[simp] theorem State.setReceiver_trk (r : Receiver) (s : State) : (s.setReceiver r).trk = s.trk := rfl
@[simp] theorem State.setReceiver_idu (r : Receiver) (s : State) : (s.setReceiver r).idu = s.idu := rfl
@[simp] theorem State.setReceiver_rte (r : Receiver) (s : State) : (s.setReceiver r).rte = s.rte := rfl
@[simp] theorem State.setReceiver_pkm (r : Receiver) (s : State) : (s.setReceiver r).pkm = s.pkm := rfl
@[simp] theorem State.setReceiver_gdr (r : Receiver) (s : State) : (s.setReceiver r).gdr = s.gdr := rfl
@[simp] theorem State.setReceiver_dpu (r : Receiver) (s : State) : (s.setReceiver r).dpu = s.dpu := rfl
@[simp] theorem State.setReceiver_tbs (r : Receiver) (s : State) : (s.setReceiver r).tbs = s.tbs := rfl
@[simp] theorem State.setReceiver_lsv (r : Receiver) (s : State) : (s.setReceiver r).lsv = s.lsv := rfl
@[simp] theorem State.setReceiver_lnk_station (r : Receiver) (s : State) : (s.setReceiver r).lnk.station = s.lnk.station := rfl
@[simp] theorem State.setReceiver_lnk_receiver (r : Receiver) (s : State) : (s.setReceiver r).lnk.receiver = r := rfl
@[simp] theorem State.setReceiver_lnk_forward (r : Receiver) (s : State) : (s.setReceiver r).lnk.forward = s.lnk.forward := rfl
@[simp] theorem State.setReceiver_lnk_slot (r : Receiver) (s : State) : (s.setReceiver r).lnk.slot = s.lnk.slot := rfl
@[simp] theorem State.setReceiver_cmp (r : Receiver) (s : State) : (s.setReceiver r).cmp = s.cmp := rfl
@[simp] theorem State.setReceiver_evu (r : Receiver) (s : State) : (s.setReceiver r).evu = s.evu := rfl
@[simp] theorem State.setReceiver_pending (r : Receiver) (s : State) : (s.setReceiver r).pending = s.pending := rfl

/-! ### clearEye -/

@[simp] theorem State.clearEye_trk_position (s : State) : (s.clearEye).trk.position = s.trk.position := rfl
@[simp] theorem State.clearEye_trk_phase (s : State) : (s.clearEye).trk.phase = s.trk.phase := rfl
@[simp] theorem State.clearEye_trk_eye (s : State) : (s.clearEye).trk.eye = EntryEye.clear := rfl
@[simp] theorem State.clearEye_trk_nextSeq (s : State) : (s.clearEye).trk.nextSeq = s.trk.nextSeq := rfl
@[simp] theorem State.clearEye_trk_queue (s : State) : (s.clearEye).trk.queue = s.trk.queue := rfl
@[simp] theorem State.clearEye_idu (s : State) : (s.clearEye).idu = s.idu := rfl
@[simp] theorem State.clearEye_rte (s : State) : (s.clearEye).rte = s.rte := rfl
@[simp] theorem State.clearEye_pkm (s : State) : (s.clearEye).pkm = s.pkm := rfl
@[simp] theorem State.clearEye_gdr (s : State) : (s.clearEye).gdr = s.gdr := rfl
@[simp] theorem State.clearEye_dpu (s : State) : (s.clearEye).dpu = s.dpu := rfl
@[simp] theorem State.clearEye_tbs (s : State) : (s.clearEye).tbs = s.tbs := rfl
@[simp] theorem State.clearEye_lsv (s : State) : (s.clearEye).lsv = s.lsv := rfl
@[simp] theorem State.clearEye_lnk (s : State) : (s.clearEye).lnk = s.lnk := rfl
@[simp] theorem State.clearEye_cmp (s : State) : (s.clearEye).cmp = s.cmp := rfl
@[simp] theorem State.clearEye_evu (s : State) : (s.clearEye).evu = s.evu := rfl
@[simp] theorem State.clearEye_pending (s : State) : (s.clearEye).pending = s.pending := rfl

/-! ### setRunning -/

@[simp] theorem State.setRunning_trk (b : Bool) (s : State) : (s.setRunning b).trk = s.trk := rfl
@[simp] theorem State.setRunning_idu (b : Bool) (s : State) : (s.setRunning b).idu = s.idu := rfl
@[simp] theorem State.setRunning_rte (b : Bool) (s : State) : (s.setRunning b).rte = s.rte := rfl
@[simp] theorem State.setRunning_pkm (b : Bool) (s : State) : (s.setRunning b).pkm = s.pkm := rfl
@[simp] theorem State.setRunning_gdr (b : Bool) (s : State) : (s.setRunning b).gdr = s.gdr := rfl
@[simp] theorem State.setRunning_dpu (b : Bool) (s : State) : (s.setRunning b).dpu = s.dpu := rfl
@[simp] theorem State.setRunning_tbs (b : Bool) (s : State) : (s.setRunning b).tbs = s.tbs := rfl
@[simp] theorem State.setRunning_lsv_line (b : Bool) (s : State) : (s.setRunning b).lsv.line = s.lsv.line := rfl
@[simp] theorem State.setRunning_lsv_reason (b : Bool) (s : State) : (s.setRunning b).lsv.reason = s.lsv.reason := rfl
@[simp] theorem State.setRunning_lsv_further (b : Bool) (s : State) : (s.setRunning b).lsv.further = s.lsv.further := rfl
@[simp] theorem State.setRunning_lsv_stopRequest (b : Bool) (s : State) : (s.setRunning b).lsv.stopRequest = s.lsv.stopRequest := rfl
@[simp] theorem State.setRunning_lsv_stopScheduled (b : Bool) (s : State) : (s.setRunning b).lsv.stopScheduled = s.lsv.stopScheduled := rfl
@[simp] theorem State.setRunning_lsv_idleMark (b : Bool) (s : State) : (s.setRunning b).lsv.idleMark = s.lsv.idleMark := rfl
@[simp] theorem State.setRunning_lsv_idleReached (b : Bool) (s : State) : (s.setRunning b).lsv.idleReached = s.lsv.idleReached := rfl
@[simp] theorem State.setRunning_lsv_idleRaised (b : Bool) (s : State) : (s.setRunning b).lsv.idleRaised = s.lsv.idleRaised := rfl
@[simp] theorem State.setRunning_lsv_holds (b : Bool) (s : State) : (s.setRunning b).lsv.holds = s.lsv.holds := rfl
@[simp] theorem State.setRunning_lsv_running (b : Bool) (s : State) : (s.setRunning b).lsv.running = b := rfl
@[simp] theorem State.setRunning_lnk (b : Bool) (s : State) : (s.setRunning b).lnk = s.lnk := rfl
@[simp] theorem State.setRunning_cmp (b : Bool) (s : State) : (s.setRunning b).cmp = s.cmp := rfl
@[simp] theorem State.setRunning_evu (b : Bool) (s : State) : (s.setRunning b).evu = s.evu := rfl
@[simp] theorem State.setRunning_pending (b : Bool) (s : State) : (s.setRunning b).pending = s.pending := rfl

/-! ### emptySlot -/

@[simp] theorem State.emptySlot_trk (s : State) : (s.emptySlot).trk = s.trk := rfl
@[simp] theorem State.emptySlot_idu (s : State) : (s.emptySlot).idu = s.idu := rfl
@[simp] theorem State.emptySlot_rte (s : State) : (s.emptySlot).rte = s.rte := rfl
@[simp] theorem State.emptySlot_pkm (s : State) : (s.emptySlot).pkm = s.pkm := rfl
@[simp] theorem State.emptySlot_gdr (s : State) : (s.emptySlot).gdr = s.gdr := rfl
@[simp] theorem State.emptySlot_dpu (s : State) : (s.emptySlot).dpu = s.dpu := rfl
@[simp] theorem State.emptySlot_tbs (s : State) : (s.emptySlot).tbs = s.tbs := rfl
@[simp] theorem State.emptySlot_lsv (s : State) : (s.emptySlot).lsv = s.lsv := rfl
@[simp] theorem State.emptySlot_lnk_station (s : State) : (s.emptySlot).lnk.station = s.lnk.station := rfl
@[simp] theorem State.emptySlot_lnk_receiver (s : State) : (s.emptySlot).lnk.receiver = s.lnk.receiver := rfl
@[simp] theorem State.emptySlot_lnk_forward (s : State) : (s.emptySlot).lnk.forward = s.lnk.forward := rfl
@[simp] theorem State.emptySlot_lnk_slot (s : State) : (s.emptySlot).lnk.slot = none := rfl
@[simp] theorem State.emptySlot_cmp (s : State) : (s.emptySlot).cmp = s.cmp := rfl
@[simp] theorem State.emptySlot_evu (s : State) : (s.emptySlot).evu = s.evu := rfl
@[simp] theorem State.emptySlot_pending (s : State) : (s.emptySlot).pending = s.pending := rfl

/-! ### withPending -/

@[simp] theorem State.withPending_trk (q : List Instr) (s : State) : (s.withPending q).trk = s.trk := rfl
@[simp] theorem State.withPending_idu (q : List Instr) (s : State) : (s.withPending q).idu = s.idu := rfl
@[simp] theorem State.withPending_rte (q : List Instr) (s : State) : (s.withPending q).rte = s.rte := rfl
@[simp] theorem State.withPending_pkm (q : List Instr) (s : State) : (s.withPending q).pkm = s.pkm := rfl
@[simp] theorem State.withPending_gdr (q : List Instr) (s : State) : (s.withPending q).gdr = s.gdr := rfl
@[simp] theorem State.withPending_dpu (q : List Instr) (s : State) : (s.withPending q).dpu = s.dpu := rfl
@[simp] theorem State.withPending_tbs (q : List Instr) (s : State) : (s.withPending q).tbs = s.tbs := rfl
@[simp] theorem State.withPending_lsv (q : List Instr) (s : State) : (s.withPending q).lsv = s.lsv := rfl
@[simp] theorem State.withPending_lnk (q : List Instr) (s : State) : (s.withPending q).lnk = s.lnk := rfl
@[simp] theorem State.withPending_cmp (q : List Instr) (s : State) : (s.withPending q).cmp = s.cmp := rfl
@[simp] theorem State.withPending_evu (q : List Instr) (s : State) : (s.withPending q).evu = s.evu := rfl
@[simp] theorem State.withPending_pending (q : List Instr) (s : State) : (s.withPending q).pending = q := rfl

/-! ### Pockets -/

@[simp] theorem State.pocket_storePocket_same (k : PocketNo) (p : Pocket) (s : State) :
    (s.storePocket k p).pocket k = p := by
  simp [State.pocket, State.storePocket]

theorem State.pocket_storePocket_other {j k : PocketNo} (h : j ≠ k) (p : Pocket) (s : State) :
    (s.storePocket k p).pocket j = s.pocket j := by
  have hv : k.val ≠ j.val := fun e => h (Fin.ext e.symm)
  simp [State.pocket, State.storePocket, hv]

@[simp] theorem State.pocket_raise (k : PocketNo) (e : EventKind) (s : State) : (s.raise e).pocket k = s.pocket k := rfl

@[simp] theorem State.pocket_hold (k : PocketNo) (r : FeedReason) (s : State) : (s.hold r).pocket k = s.pocket k := rfl

@[simp] theorem State.pocket_release (k : PocketNo) (r : FeedReason) (s : State) :
    (s.release r).pocket k = s.pocket k := rfl

@[simp] theorem State.pocket_bump (k : PocketNo) (c : Counter) (s : State) : (s.bump c).pocket k = s.pocket k := rfl

@[simp] theorem State.pocket_emit (k : PocketNo) (src : Source) (d kind corr : Byte) (p : List Byte) (s : State) :
    (s.emit src d kind corr p).pocket k = s.pocket k := rfl

end Sys2Proof.Machine
end

