-- ==== Sys2Proof/Laws/Settle.lean ====
section
/-! SUPPORT. The end of an event: what it leaves alone (`settle_steady`), and that it does nothing where nothing is left
waiting (`settle_of_quiet`). -/

namespace Sys2Proof.Machine

/-! ## Masks -/

theorem and_or_of_and_zero {n : Nat} {w t m : BitVec n} (h : t &&& m = 0) : (w ||| t) &&& m = w &&& m := by
  rw [BitVec.and_comm, BitVec.and_or_distrib_left, BitVec.and_comm m w, BitVec.and_comm m t, h]; simp

theorem and_drop_of_and_eq {n : Nat} {w t m : BitVec n} (h : ~~~t &&& m = m) : (w &&& ~~~t) &&& m = w &&& m := by
  rw [BitVec.and_assoc, h]

/-- The reasons that the end of an event may set and clear. -/
def FeedReason.loose : FeedReason → Bool
  | .classBlocked => true
  | .looseNearFull => true
  | .contextShortage => true
  | .recordBacklog => true
  | .lineNotRun => false
  | .transitFull => false
  | .intakeOverrun => false
  | .operator => false

theorem steadyHolds_add {r : FeedReason} (h : r.loose = true) (w : BitVec 8) :
    steadyHolds (setAdd w r.code) = steadyHolds w := by
  cases r <;> simp only [FeedReason.loose, Bool.false_eq_true] at h <;> exact and_or_of_and_zero (by decide)

theorem steadyHolds_drop {r : FeedReason} (h : r.loose = true) (w : BitVec 8) :
    steadyHolds (setDrop w r.code) = steadyHolds w := by
  cases r <;> simp only [FeedReason.loose, Bool.false_eq_true] at h <;> exact and_drop_of_and_eq (by decide)

/-! ## Plain updates and `steady` -/

theorem steady_hold {r : FeedReason} (h : r.loose = true) (s : State) : (s.hold r).steady = s.steady := by
  simp only [State.steady, State.hold, steadyHolds_add h]

theorem steady_release {r : FeedReason} (h : r.loose = true) (s : State) : (s.release r).steady = s.steady := by
  simp only [State.steady, State.release, steadyHolds_drop h]

theorem steady_holdWhile {r : FeedReason} (h : r.loose = true) (b : Bool) (s : State) :
    (s.holdWhile r b).steady = s.steady := by
  unfold State.holdWhile
  split
  · exact steady_hold h s
  · exact steady_release h s

theorem steady_raise {k : EventKind} (h : k = .looseNearFull ∨ k = .feedIdle) (s : State) :
    (s.raise k).steady = s.steady := by
  have e : steadyEvents (setAdd s.evu.pending k.code) = steadyEvents s.evu.pending := by
    rcases h with rfl | rfl <;> exact and_or_of_and_zero (by decide)
  simp only [State.steady, State.raise, EventUnit.withSets, e]

theorem map_set_of_eq {α β : Type} {n : Nat} (f : α → β) (v : Vector α n) (k : Fin n) (a : α) (h : f a = f v[k]) :
    (v.set k a).map f = v.map f := by
  ext i hi
  simp only [Vector.getElem_map, Vector.getElem_set]
  split
  · rename_i e; subst e; exact h
  · rfl

theorem steady_storePocket {k : PocketNo} {p : Pocket} {s : State} (h : p.steady = (s.pocket k).steady) :
    (s.storePocket k p).steady = s.steady := by
  simp only [State.steady, State.storePocket]
  rw [map_set_of_eq Pocket.steady s.pkm.pockets k p h]

theorem steady_setBlocked (w : BitVec 24) (s : State) : (s.setBlocked w).steady = s.steady := by
  unfold State.setBlocked
  rw [steady_holdWhile rfl]; rfl

theorem steady_putPocket {k : PocketNo} {p : Pocket} {s : State} (h : p.steady = (s.pocket k).steady) :
    (s.putPocket k p).steady = s.steady := by
  unfold State.putPocket
  split
  · rw [steady_setBlocked]; exact steady_storePocket h
  · exact steady_storePocket h

theorem steady_reenterPocket {k : PocketNo} {p : Pocket} {s : State} (h : p.steady = (s.pocket k).steady) :
    (s.reenterPocket k p).steady = s.steady := by
  unfold State.reenterPocket
  split
  · rw [steady_setBlocked]; exact steady_storePocket h
  · exact steady_storePocket h

theorem steady_pocket_of_eq {s t : State} (h : t.steady = s.steady) (k : PocketNo) :
    (t.pocket k).steady = (s.pocket k).steady := by
  have h2 : t.steady.pkm.pockets[k] = s.steady.pkm.pockets[k] := by rw [h]
  simpa [State.steady, State.pocket] using h2

/-! ## Pocket operations and `Pocket.steady` -/

@[simp] theorem Pocket.steady_limitTest (p : Pocket) : p.limitTest.steady = p.steady := by
  unfold Pocket.limitTest Pocket.completionTest
  dsimp only
  repeat' split
  all_goals rfl

@[simp] theorem Pocket.steady_setLimit (p : Pocket) : p.setLimit.steady = p.steady := by
  unfold Pocket.setLimit; rw [Pocket.steady_limitTest]; rfl

@[simp] theorem Pocket.steady_enterOpen (p : Pocket) : p.enterOpen.steady = p.steady := by
  unfold Pocket.enterOpen; rw [Pocket.steady_limitTest]; rfl

@[simp] theorem Pocket.steady_reopen (p : Pocket) : p.reopen.steady = p.steady := by
  unfold Pocket.reopen; rw [Pocket.steady_setLimit]; rfl

@[simp] theorem Pocket.steady_takeAssignment (b : Bank) (k : PocketNo) (p : Pocket) :
    (p.takeAssignment b k).steady = p.steady := by
  unfold Pocket.takeAssignment
  dsimp only
  split
  · rfl
  · split
    · rfl
    · rw [Pocket.steady_enterOpen]; rfl

@[simp] theorem Pocket.steady_issue (st : BundleStatus) (n : Nat) (p : Pocket) : (p.issue st n).steady = p.steady := rfl

/-! ## The parts of the end of an event -/

theorem steady_issueRecord (k : PocketNo) (st : BundleStatus) (s : State) : (s.issueRecord k st).steady = s.steady := by
  unfold State.issueRecord
  rw [steady_putPocket]
  · rfl
  · exact Pocket.steady_issue _ _ _

theorem steady_startBundle (k : PocketNo) (s : State) : (s.startBundle k).steady = s.steady := by
  unfold State.startBundle
  apply steady_reenterPocket
  split <;> simp

theorem steady_fillOrder (k : PocketNo) (s : State) : (s.fillOrder k).steady = s.steady := by
  unfold State.fillOrder
  dsimp only
  split
  · exact steady_putPocket rfl
  · rfl

theorem steady_issueRemoved (k : PocketNo) (s : State) : (s.issueRemoved k).steady = s.steady := by
  unfold State.issueRemoved
  dsimp only
  split
  · rw [steady_startBundle, steady_issueRecord]
  · rfl

theorem steady_foldl {α : Type} (f : State → α → State) (h : ∀ s a, (f s a).steady = s.steady) (l : List α) (s : State) :
    (l.foldl f s).steady = s.steady := by
  induction l generalizing s with
  | nil => rfl
  | cons a l ih => rw [List.foldl_cons, ih, h]

theorem steady_heldBack (s : State) : s.heldBack.steady = s.steady :=
  steady_foldl _ (fun s k => by rw [steady_issueRemoved, steady_fillOrder]) allPockets s

theorem steady_nearFullTest (s : State) : s.nearFullTest.steady = s.steady := by
  unfold State.nearFullTest
  split
  · split
    · rfl
    · rw [steady_raise (.inl rfl), steady_hold rfl]
  · exact steady_release rfl s

theorem steady_feedIdleTest (s : State) : s.feedIdleTest.steady = s.steady := by
  unfold State.feedIdleTest
  split
  · rw [steady_raise (.inr rfl)]; rfl
  · rfl

theorem steady_placeDeposit (c : Context) (s : State) : (s.placeDeposit c).steady = s.steady := by
  unfold State.placeDeposit
  rw [steady_release rfl]
  have h : ∀ x : Context,
      (x.counting && !(decide (x.state = .recordPending) && x.seq == c.seq)) = x.counting := by
    intro x; unfold Context.counting; cases x.state <;> simp
  simp only [State.steady, State.emit, List.filter_filter, h]

theorem steady_choose (s : State) : s.choose.steady = s.steady := by
  unfold State.choose
  split
  · rfl
  · split
    · exact steady_placeDeposit _ s
    · split
      · unfold State.placeOrder
        rw [steady_putPocket]
        · rfl
        · rfl
      · split
        · unfold State.placeRecord
          rw [steady_putPocket]
          · rfl
          · rfl
        · split
          · rfl
          · split <;> rfl

theorem steady_arbitrate (s : State) : s.arbitrate.steady = s.steady := by
  unfold State.arbitrate
  split
  · rfl
  · exact steady_choose s

theorem steady_backlogTest (s : State) : s.backlogTest.steady = s.steady := by
  unfold State.backlogTest
  split
  · exact steady_release rfl s
  · split
    · exact steady_hold rfl s
    · rfl

/-- What the end of an event can do: it leaves everything in `State.steady` alone. -/
theorem settle_steady (s : State) : s.settle.steady = s.steady := by
  unfold State.settle
  rw [steady_backlogTest, steady_nearFullTest, steady_heldBack, steady_arbitrate, steady_feedIdleTest,
    steady_nearFullTest, steady_heldBack]

/-! ## Reading single fields off an equation of `steady` -/

variable {s t : State}

theorem trk_of_steady (h : t.steady = s.steady) : t.trk = s.trk := show t.steady.trk = s.steady.trk by rw [h]
theorem idu_of_steady (h : t.steady = s.steady) : t.idu = s.idu := show t.steady.idu = s.steady.idu by rw [h]
theorem rte_of_steady (h : t.steady = s.steady) : t.rte = s.rte := show t.steady.rte = s.steady.rte by rw [h]
theorem gdr_of_steady (h : t.steady = s.steady) : t.gdr = s.gdr := show t.steady.gdr = s.steady.gdr by rw [h]
theorem tbs_of_steady (h : t.steady = s.steady) : t.tbs = s.tbs := show t.steady.tbs = s.steady.tbs by rw [h]
theorem pending_of_steady (h : t.steady = s.steady) : t.pending = s.pending := show t.steady.pending = s.steady.pending by rw [h]
theorem commands_of_steady (h : t.steady = s.steady) : t.cmp.commands = s.cmp.commands :=
  show t.steady.cmp.commands = s.steady.cmp.commands by rw [h]
theorem line_of_steady (h : t.steady = s.steady) : t.lsv.line = s.lsv.line := show t.steady.lsv.line = s.steady.lsv.line by rw [h]
theorem station_of_steady (h : t.steady = s.steady) : t.lnk.station = s.lnk.station :=
  show t.steady.lnk.station = s.steady.lnk.station by rw [h]
theorem counters_of_steady (h : t.steady = s.steady) : t.evu.counters = s.evu.counters :=
  show t.steady.evu.counters = s.steady.evu.counters by rw [h]
theorem declarations_of_steady (h : t.steady = s.steady) : t.dpu.declarations = s.dpu.declarations :=
  show t.steady.dpu.declarations = s.steady.dpu.declarations by rw [h]

/-! ## Where nothing is left waiting -/

theorem setDrop_of_not_has {n : Nat} {w : BitVec n} {k : Nat} (h : setHas w k = false) : setDrop w k = w := by
  ext i hi
  simp only [setDrop, BitVec.getElem_and, BitVec.getElem_not, BitVec.getElem_twoPow]
  by_cases e : i = k
  · subst e
    simp only [setHas, BitVec.getLsbD_eq_getElem hi] at h
    simp [h]
  · simp [e]

theorem setAdd_of_has {n : Nat} {w : BitVec n} {k : Nat} (h : setHas w k = true) : setAdd w k = w := by
  ext i hi
  simp only [setAdd, BitVec.getElem_or, BitVec.getElem_twoPow]
  by_cases e : i = k
  · subst e
    simp only [setHas, BitVec.getLsbD_eq_getElem hi] at h
    simp [h]
  · simp [e]

theorem release_of_not_held {r : FeedReason} {s : State} (h : s.held r = false) : s.release r = s := by
  simp only [State.release, setDrop_of_not_has h]

theorem hold_of_held {r : FeedReason} {s : State} (h : s.held r = true) : s.hold r = s := by
  simp only [State.hold, setAdd_of_has h]

theorem fillOrder_of_quiet {s : State} {k : PocketNo} (h : s.PocketQuiet k) : s.fillOrder k = s := if_neg h.1

theorem issueRemoved_of_quiet {s : State} {k : PocketNo} (h : s.PocketQuiet k) : s.issueRemoved k = s := if_neg h.2

theorem heldBack_of_quiet {s : State} (h : ∀ k, s.PocketQuiet k) : s.heldBack = s := by
  unfold State.heldBack
  have step : ∀ k, (s.fillOrder k).issueRemoved k = s := fun k => by
    rw [fillOrder_of_quiet (h k), issueRemoved_of_quiet (h k)]
  generalize allPockets = l
  induction l with
  | nil => rfl
  | cons k l ih => rw [List.foldl_cons, step k, ih]

theorem nearFullTest_of_quiet {s : State}
    (h : s.held .looseNearFull = ((s.pocket pocket1).nearFull || (s.pocket pocket2).nearFull)) :
    s.nearFullTest = s := by
  unfold State.nearFullTest
  rw [← h]
  by_cases e : s.held .looseNearFull = true
  · rw [if_pos e, if_pos e]
  · rw [if_neg e]; exact release_of_not_held (by simpa using e)

/-- Nothing waits but, maybe, an EVENT frame, a forwarded frame or a record: enough for an addressed command's own reply to
be what the arbiter takes. -/
def State.Calm (s : State) : Prop :=
  (∀ k, s.PocketQuiet k)
    ∧ s.held .looseNearFull = ((s.pocket pocket1).nearFull || (s.pocket pocket2).nearFull)
    ∧ s.idleDue = false
    ∧ (s.lnk.slot = none → s.cmp.replies = [])
    ∧ (s.recordsWaiting = [] → s.held .recordBacklog = false)
    ∧ (s.recordHeldUp = true → s.held .recordBacklog = true)

theorem State.Quiet.calm {s : State} (h : s.Quiet) : s.Calm :=
  ⟨h.1, h.2.1, h.2.2.1, fun e => (h.2.2.2.1 e).1, h.2.2.2.2.1, h.2.2.2.2.2⟩

theorem backlogTest_of_quiet {s : State} (h1 : s.recordsWaiting = [] → s.held .recordBacklog = false)
    (h2 : s.recordHeldUp = true → s.held .recordBacklog = true) : s.backlogTest = s := by
  unfold State.backlogTest
  by_cases e : s.recordsWaiting.isEmpty = true
  · rw [if_pos e]; exact release_of_not_held (h1 (by simpa using e))
  · rw [if_neg e]
    by_cases e2 : s.recordHeldUp = true
    · rw [if_pos e2]; exact hold_of_held (h2 e2)
    · rw [if_neg e2]

theorem settle_eq_arbitrate {s : State} (hp : ∀ k, s.PocketQuiet k)
    (hn : s.held .looseNearFull = ((s.pocket pocket1).nearFull || (s.pocket pocket2).nearFull))
    (hi : s.idleDue = false) : s.settle = s.arbitrate.heldBack.nearFullTest.backlogTest := by
  unfold State.settle
  rw [heldBack_of_quiet hp, nearFullTest_of_quiet hn]
  have : s.feedIdleTest = s := by unfold State.feedIdleTest; rw [hi]; rfl
  rw [this]

/-- The end of an event does nothing while the slot holds a frame and nothing else is left waiting for it. -/
theorem settle_of_slot {s : State} (h : s.Calm) (hs : s.lnk.slot.isSome = true) : s.settle = s := by
  obtain ⟨hp, hn, hi, -, h1, h2⟩ := h
  rw [settle_eq_arbitrate hp hn hi]
  have : s.arbitrate = s := by unfold State.arbitrate; rw [hs]; rfl
  rw [this, heldBack_of_quiet hp, nearFullTest_of_quiet hn, backlogTest_of_quiet h1 h2]

/-- The end of an event with an empty slot and a reply waiting places the oldest reply, and no more. -/
theorem settle_of_reply {s : State} {r : Reply} {rs : List Reply} (hp : ∀ k, s.PocketQuiet k)
    (hn : s.held .looseNearFull = ((s.pocket pocket1).nearFull || (s.pocket pocket2).nearFull))
    (hi : s.idleDue = false) (h1 : s.recordsWaiting = [] → s.held .recordBacklog = false)
    (hs : s.lnk.slot = none) (hr : s.cmp.replies = r :: rs) : s.settle = s.placeReply r := by
  rw [settle_eq_arbitrate hp hn hi]
  have : s.arbitrate = s.placeReply r := by
    unfold State.arbitrate State.choose
    simp [hs, hr]
  rw [this]
  have hp' : ∀ k, (s.placeReply r).PocketQuiet k := hp
  rw [heldBack_of_quiet hp', nearFullTest_of_quiet (s := s.placeReply r) hn]
  refine backlogTest_of_quiet (s := s.placeReply r) h1 ?_
  intro h
  exfalso
  have hh : (s.placeReply r).recordHeldUp = (s.placeReply r).recordsWaiting.any (fun x => decide (x.rank < 1)) := rfl
  rw [hh, List.any_eq_true] at h
  obtain ⟨x, -, hx⟩ := h
  cases x <;> simp [Source.rank] at hx

/-- In a quiet state the end of an event does nothing. -/
theorem settle_of_quiet {s : State} (h : s.Quiet) : s.settle = s := by
  by_cases hs : s.lnk.slot.isSome = true
  · exact settle_of_slot h.calm hs
  · have hn : s.lnk.slot = none := by simpa using hs
    obtain ⟨hp, hnf, hi, hw, h1, h2⟩ := h
    obtain ⟨a, b, c, d, e, f⟩ := hw hn
    rw [settle_eq_arbitrate hp hnf hi]
    have : s.arbitrate = s := by
      unfold State.arbitrate State.choose
      simp [hn, a, b, c, d, e, f]
    rw [this, heldBack_of_quiet hp, nearFullTest_of_quiet hnf, backlogTest_of_quiet h1 h2]

/-! ## The take of an addressed command -/

/-- What the take of an addressed command leaves: `u` and `a` are what the command itself leaves and answers. -/
theorem take_addressed {s u : State} {row : Instr} {act : Act} {q : QueuedCommand} {rest : List QueuedCommand} {a : Answer}
    (hd : s.Due row q rest) (hb : q.broadcast = false)
    (ha : act q { s with cmp := { s.cmp with commands := rest } } = (u, a)) (hc : u.cmp.commands = rest) (hu : u.Calm) :
    s.takeCommand row act = u.concluded q rest a := by
  obtain ⟨h1, h2, h3⟩ := hd
  have e : s.takeCommand row act = (u.answer q a).settle := by
    unfold State.takeCommand
    rw [h1]
    dsimp only
    rw [if_pos ⟨h2, h3⟩, ha]
  obtain ⟨hp, hn, hi, hr, b1, b2⟩ := hu
  have ans : u.answer q a = { u with cmp := { commands := rest, replies := u.cmp.replies ++ [replyTo q a] } } := by
    unfold State.answer
    rw [hb, ← hc]; rfl
  rw [e, ans]
  unfold State.concluded
  by_cases hs : u.lnk.slot = none
  · rw [if_pos hs]
    have key := settle_of_reply (r := replyTo q a) (rs := [])
      (s := { u with cmp := { commands := rest, replies := u.cmp.replies ++ [replyTo q a] } }) hp hn hi b1 hs
      (by simp [hr hs])
    rw [key]
    simp only [State.placeReply, State.emit, State.replyFrame, State.ownStation, hr hs, List.nil_append, List.tail_cons]
  · rw [if_neg hs]
    exact settle_of_slot ⟨hp, hn, hi, fun x => absurd x hs, b1, b2⟩ (by simpa [Option.isSome_iff_ne_none] using hs)

/-- What the take of a broadcast leaves, where the command itself leaves a quiet state `u`. -/
theorem take_broadcast {s u : State} {row : Instr} {act : Act} {q : QueuedCommand} {rest : List QueuedCommand} {a : Answer}
    (hd : s.Due row q rest) (hb : q.broadcast = true)
    (ha : act q { s with cmp := { s.cmp with commands := rest } } = (u, a)) (hu : u.Quiet) :
    s.takeCommand row act = u := by
  obtain ⟨h1, h2, h3⟩ := hd
  have e : s.takeCommand row act = (u.answer q a).settle := by
    unfold State.takeCommand
    rw [h1]
    dsimp only
    rw [if_pos ⟨h2, h3⟩, ha]
  rw [e]
  unfold State.answer
  rw [hb]
  exact settle_of_quiet hu

/-- A take that is not due changes nothing. -/
theorem take_not_due {s : State} {row : Instr} {act : Act} (h : ∀ q rest, ¬ s.Due row q rest) : s.takeCommand row act = s := by
  unfold State.takeCommand
  split
  · rfl
  · rename_i q rest e
    rw [if_neg]
    rintro ⟨h2, h3⟩
    exact h q rest ⟨e, h2, h3⟩

end Sys2Proof.Machine
end

