-- ==== Sys2Proof/Laws/Frames.lean ====
section
/-! SUPPORT. What each shared operation leaves alone: one lemma per operation, with a conjunct for every block, and for every
field of a block it changes in part, that stands after it as it stood before. -/

namespace Sys2Proof.Machine

/-- A fold of steps that each keep `f` keeps `f`. -/
theorem foldl_keeps {α β : Type} {g : State → α → State} (f : State → β) (h : ∀ s a, f (g s a) = f s) (l : List α) (s : State) :
    f (l.foldl g s) = f s := by
  induction l generalizing s with
  | nil => rfl
  | cons a l ih => rw [List.foldl_cons, ih, h]

@[simp] theorem State.holdWhile_keeps (r : FeedReason) (b : Bool) (s : State) :
    (s.holdWhile r b).trk = s.trk ∧ (s.holdWhile r b).idu = s.idu ∧ (s.holdWhile r b).rte = s.rte ∧
      (s.holdWhile r b).pkm = s.pkm ∧ (s.holdWhile r b).gdr = s.gdr ∧ (s.holdWhile r b).dpu = s.dpu ∧
      (s.holdWhile r b).tbs = s.tbs ∧ (s.holdWhile r b).lnk = s.lnk ∧ (s.holdWhile r b).cmp = s.cmp ∧
      (s.holdWhile r b).evu = s.evu ∧ (s.holdWhile r b).pending = s.pending ∧
      (s.holdWhile r b).lsv.line = s.lsv.line ∧ (s.holdWhile r b).lsv.reason = s.lsv.reason ∧
      (s.holdWhile r b).lsv.further = s.lsv.further ∧ (s.holdWhile r b).lsv.stopRequest = s.lsv.stopRequest ∧
      (s.holdWhile r b).lsv.running = s.lsv.running ∧ (s.holdWhile r b).lsv.stopScheduled = s.lsv.stopScheduled ∧
      (s.holdWhile r b).lsv.idleMark = s.lsv.idleMark ∧ (s.holdWhile r b).lsv.idleReached = s.lsv.idleReached ∧
      (s.holdWhile r b).lsv.idleRaised = s.lsv.idleRaised := by
  unfold State.holdWhile; (repeat' split) <;> simp

@[simp] theorem State.setBlocked_keeps (w : BitVec 24) (s : State) :
    (s.setBlocked w).trk = s.trk ∧ (s.setBlocked w).idu = s.idu ∧ (s.setBlocked w).rte = s.rte ∧
      (s.setBlocked w).gdr = s.gdr ∧ (s.setBlocked w).dpu = s.dpu ∧ (s.setBlocked w).tbs = s.tbs ∧
      (s.setBlocked w).lnk = s.lnk ∧ (s.setBlocked w).cmp = s.cmp ∧ (s.setBlocked w).evu = s.evu ∧
      (s.setBlocked w).pending = s.pending ∧ (s.setBlocked w).lsv.line = s.lsv.line ∧
      (s.setBlocked w).lsv.reason = s.lsv.reason ∧ (s.setBlocked w).lsv.further = s.lsv.further ∧
      (s.setBlocked w).lsv.stopRequest = s.lsv.stopRequest ∧ (s.setBlocked w).lsv.running = s.lsv.running ∧
      (s.setBlocked w).lsv.stopScheduled = s.lsv.stopScheduled ∧ (s.setBlocked w).lsv.idleMark = s.lsv.idleMark ∧
      (s.setBlocked w).lsv.idleReached = s.lsv.idleReached ∧ (s.setBlocked w).lsv.idleRaised = s.lsv.idleRaised ∧
      (s.setBlocked w).pkm.pockets = s.pkm.pockets ∧ (s.setBlocked w).pkm.nextBundle = s.pkm.nextBundle := by
  unfold State.setBlocked; simp

@[simp] theorem State.putPocket_keeps (k : PocketNo) (p : Pocket) (s : State) :
    (s.putPocket k p).trk = s.trk ∧ (s.putPocket k p).idu = s.idu ∧ (s.putPocket k p).rte = s.rte ∧
      (s.putPocket k p).gdr = s.gdr ∧ (s.putPocket k p).dpu = s.dpu ∧ (s.putPocket k p).tbs = s.tbs ∧
      (s.putPocket k p).lnk = s.lnk ∧ (s.putPocket k p).cmp = s.cmp ∧ (s.putPocket k p).evu = s.evu ∧
      (s.putPocket k p).pending = s.pending ∧ (s.putPocket k p).lsv.line = s.lsv.line ∧
      (s.putPocket k p).lsv.reason = s.lsv.reason ∧ (s.putPocket k p).lsv.further = s.lsv.further ∧
      (s.putPocket k p).lsv.stopRequest = s.lsv.stopRequest ∧ (s.putPocket k p).lsv.running = s.lsv.running ∧
      (s.putPocket k p).lsv.stopScheduled = s.lsv.stopScheduled ∧ (s.putPocket k p).lsv.idleMark = s.lsv.idleMark ∧
      (s.putPocket k p).lsv.idleReached = s.lsv.idleReached ∧ (s.putPocket k p).lsv.idleRaised = s.lsv.idleRaised ∧
      (s.putPocket k p).pkm.nextBundle = s.pkm.nextBundle := by
  unfold State.putPocket; (repeat' split) <;> simp

@[simp] theorem State.reenterPocket_keeps (k : PocketNo) (p : Pocket) (s : State) :
    (s.reenterPocket k p).trk = s.trk ∧ (s.reenterPocket k p).idu = s.idu ∧ (s.reenterPocket k p).rte = s.rte ∧
      (s.reenterPocket k p).gdr = s.gdr ∧ (s.reenterPocket k p).dpu = s.dpu ∧ (s.reenterPocket k p).tbs = s.tbs ∧
      (s.reenterPocket k p).lnk = s.lnk ∧ (s.reenterPocket k p).cmp = s.cmp ∧ (s.reenterPocket k p).evu = s.evu ∧
      (s.reenterPocket k p).pending = s.pending ∧ (s.reenterPocket k p).lsv.line = s.lsv.line ∧
      (s.reenterPocket k p).lsv.reason = s.lsv.reason ∧ (s.reenterPocket k p).lsv.further = s.lsv.further ∧
      (s.reenterPocket k p).lsv.stopRequest = s.lsv.stopRequest ∧ (s.reenterPocket k p).lsv.running = s.lsv.running ∧
      (s.reenterPocket k p).lsv.stopScheduled = s.lsv.stopScheduled ∧
      (s.reenterPocket k p).lsv.idleMark = s.lsv.idleMark ∧
      (s.reenterPocket k p).lsv.idleReached = s.lsv.idleReached ∧
      (s.reenterPocket k p).lsv.idleRaised = s.lsv.idleRaised ∧
      (s.reenterPocket k p).pkm.nextBundle = s.pkm.nextBundle := by
  unfold State.reenterPocket; (repeat' split) <;> simp

@[simp] theorem State.faultPocket_keeps (k : PocketNo) (s : State) :
    (s.faultPocket k).trk = s.trk ∧ (s.faultPocket k).idu = s.idu ∧ (s.faultPocket k).rte = s.rte ∧
      (s.faultPocket k).gdr = s.gdr ∧ (s.faultPocket k).dpu = s.dpu ∧ (s.faultPocket k).tbs = s.tbs ∧
      (s.faultPocket k).lnk = s.lnk ∧ (s.faultPocket k).cmp = s.cmp ∧ (s.faultPocket k).pending = s.pending ∧
      (s.faultPocket k).lsv.line = s.lsv.line ∧ (s.faultPocket k).lsv.reason = s.lsv.reason ∧
      (s.faultPocket k).lsv.further = s.lsv.further ∧ (s.faultPocket k).lsv.stopRequest = s.lsv.stopRequest ∧
      (s.faultPocket k).lsv.running = s.lsv.running ∧ (s.faultPocket k).lsv.stopScheduled = s.lsv.stopScheduled ∧
      (s.faultPocket k).lsv.idleMark = s.lsv.idleMark ∧ (s.faultPocket k).lsv.idleReached = s.lsv.idleReached ∧
      (s.faultPocket k).lsv.idleRaised = s.lsv.idleRaised ∧ (s.faultPocket k).evu.enable = s.evu.enable ∧
      (s.faultPocket k).evu.frameNumber = s.evu.frameNumber ∧ (s.faultPocket k).evu.counters = s.evu.counters ∧
      (s.faultPocket k).pkm.nextBundle = s.pkm.nextBundle := by
  unfold State.faultPocket; (repeat' split) <;> simp

@[simp] theorem State.strayPocket_keeps (k : PocketNo) (s : State) :
    (s.strayPocket k).trk = s.trk ∧ (s.strayPocket k).idu = s.idu ∧ (s.strayPocket k).rte = s.rte ∧
      (s.strayPocket k).gdr = s.gdr ∧ (s.strayPocket k).dpu = s.dpu ∧ (s.strayPocket k).tbs = s.tbs ∧
      (s.strayPocket k).lnk = s.lnk ∧ (s.strayPocket k).cmp = s.cmp ∧ (s.strayPocket k).pending = s.pending ∧
      (s.strayPocket k).lsv.line = s.lsv.line ∧ (s.strayPocket k).lsv.reason = s.lsv.reason ∧
      (s.strayPocket k).lsv.further = s.lsv.further ∧ (s.strayPocket k).lsv.stopRequest = s.lsv.stopRequest ∧
      (s.strayPocket k).lsv.running = s.lsv.running ∧ (s.strayPocket k).lsv.stopScheduled = s.lsv.stopScheduled ∧
      (s.strayPocket k).lsv.idleMark = s.lsv.idleMark ∧ (s.strayPocket k).lsv.idleReached = s.lsv.idleReached ∧
      (s.strayPocket k).lsv.idleRaised = s.lsv.idleRaised ∧ (s.strayPocket k).evu.enable = s.evu.enable ∧
      (s.strayPocket k).evu.frameNumber = s.evu.frameNumber ∧ (s.strayPocket k).evu.counters = s.evu.counters ∧
      (s.strayPocket k).pkm.nextBundle = s.pkm.nextBundle := by
  unfold State.strayPocket; (repeat' split) <;> simp

@[simp] theorem State.blockClass_keeps (c : ClassNo) (s : State) :
    (s.blockClass c).trk = s.trk ∧ (s.blockClass c).idu = s.idu ∧ (s.blockClass c).rte = s.rte ∧
      (s.blockClass c).gdr = s.gdr ∧ (s.blockClass c).dpu = s.dpu ∧ (s.blockClass c).tbs = s.tbs ∧
      (s.blockClass c).lnk = s.lnk ∧ (s.blockClass c).cmp = s.cmp ∧ (s.blockClass c).pending = s.pending ∧
      (s.blockClass c).lsv.line = s.lsv.line ∧ (s.blockClass c).lsv.reason = s.lsv.reason ∧
      (s.blockClass c).lsv.further = s.lsv.further ∧ (s.blockClass c).lsv.stopRequest = s.lsv.stopRequest ∧
      (s.blockClass c).lsv.running = s.lsv.running ∧ (s.blockClass c).lsv.stopScheduled = s.lsv.stopScheduled ∧
      (s.blockClass c).lsv.idleMark = s.lsv.idleMark ∧ (s.blockClass c).lsv.idleReached = s.lsv.idleReached ∧
      (s.blockClass c).lsv.idleRaised = s.lsv.idleRaised ∧ (s.blockClass c).evu.enable = s.evu.enable ∧
      (s.blockClass c).evu.frameNumber = s.evu.frameNumber ∧ (s.blockClass c).evu.counters = s.evu.counters ∧
      (s.blockClass c).pkm.nextBundle = s.pkm.nextBundle ∧ (s.blockClass c).pkm.pockets = s.pkm.pockets := by
  unfold State.blockClass; (repeat' split) <;> simp

@[simp] theorem State.commit_keeps (k : PocketNo) (d : Nat) (s : State) :
    (s.commit k d).trk = s.trk ∧ (s.commit k d).idu = s.idu ∧ (s.commit k d).rte = s.rte ∧
      (s.commit k d).gdr = s.gdr ∧ (s.commit k d).dpu = s.dpu ∧ (s.commit k d).tbs = s.tbs ∧
      (s.commit k d).lnk = s.lnk ∧ (s.commit k d).cmp = s.cmp ∧ (s.commit k d).pending = s.pending ∧
      (s.commit k d).lsv.line = s.lsv.line ∧ (s.commit k d).lsv.reason = s.lsv.reason ∧
      (s.commit k d).lsv.further = s.lsv.further ∧ (s.commit k d).lsv.stopRequest = s.lsv.stopRequest ∧
      (s.commit k d).lsv.running = s.lsv.running ∧ (s.commit k d).lsv.stopScheduled = s.lsv.stopScheduled ∧
      (s.commit k d).lsv.idleMark = s.lsv.idleMark ∧ (s.commit k d).lsv.idleReached = s.lsv.idleReached ∧
      (s.commit k d).lsv.idleRaised = s.lsv.idleRaised ∧ (s.commit k d).evu.enable = s.evu.enable ∧
      (s.commit k d).evu.frameNumber = s.evu.frameNumber ∧ (s.commit k d).evu.counters = s.evu.counters := by
  unfold State.commit; dsimp only; (repeat' split) <;> simp

@[simp] theorem State.withdraw_keeps (k : PocketNo) (d : Nat) (s : State) :
    (s.withdraw k d).trk = s.trk ∧ (s.withdraw k d).idu = s.idu ∧ (s.withdraw k d).rte = s.rte ∧
      (s.withdraw k d).gdr = s.gdr ∧ (s.withdraw k d).dpu = s.dpu ∧ (s.withdraw k d).tbs = s.tbs ∧
      (s.withdraw k d).lnk = s.lnk ∧ (s.withdraw k d).cmp = s.cmp ∧ (s.withdraw k d).evu = s.evu ∧
      (s.withdraw k d).pending = s.pending ∧ (s.withdraw k d).lsv.line = s.lsv.line ∧
      (s.withdraw k d).lsv.reason = s.lsv.reason ∧ (s.withdraw k d).lsv.further = s.lsv.further ∧
      (s.withdraw k d).lsv.stopRequest = s.lsv.stopRequest ∧ (s.withdraw k d).lsv.running = s.lsv.running ∧
      (s.withdraw k d).lsv.stopScheduled = s.lsv.stopScheduled ∧ (s.withdraw k d).lsv.idleMark = s.lsv.idleMark ∧
      (s.withdraw k d).lsv.idleReached = s.lsv.idleReached ∧ (s.withdraw k d).lsv.idleRaised = s.lsv.idleRaised ∧
      (s.withdraw k d).pkm.nextBundle = s.pkm.nextBundle := by
  unfold State.withdraw; simp

@[simp] theorem State.deliverTo_keeps (k : PocketNo) (d : Nat) (card : Bool) (s : State) :
    (s.deliverTo k d card).trk = s.trk ∧ (s.deliverTo k d card).idu = s.idu ∧ (s.deliverTo k d card).rte = s.rte ∧
      (s.deliverTo k d card).gdr = s.gdr ∧ (s.deliverTo k d card).dpu = s.dpu ∧ (s.deliverTo k d card).tbs = s.tbs ∧
      (s.deliverTo k d card).lnk = s.lnk ∧ (s.deliverTo k d card).cmp = s.cmp ∧ (s.deliverTo k d card).evu = s.evu ∧
      (s.deliverTo k d card).pending = s.pending ∧ (s.deliverTo k d card).lsv.line = s.lsv.line ∧
      (s.deliverTo k d card).lsv.reason = s.lsv.reason ∧ (s.deliverTo k d card).lsv.further = s.lsv.further ∧
      (s.deliverTo k d card).lsv.stopRequest = s.lsv.stopRequest ∧
      (s.deliverTo k d card).lsv.running = s.lsv.running ∧
      (s.deliverTo k d card).lsv.stopScheduled = s.lsv.stopScheduled ∧
      (s.deliverTo k d card).lsv.idleMark = s.lsv.idleMark ∧
      (s.deliverTo k d card).lsv.idleReached = s.lsv.idleReached ∧
      (s.deliverTo k d card).lsv.idleRaised = s.lsv.idleRaised ∧
      (s.deliverTo k d card).pkm.nextBundle = s.pkm.nextBundle := by
  unfold State.deliverTo; simp

@[simp] theorem State.issueRecord_keeps (k : PocketNo) (st : BundleStatus) (s : State) :
    (s.issueRecord k st).trk = s.trk ∧ (s.issueRecord k st).idu = s.idu ∧ (s.issueRecord k st).rte = s.rte ∧
      (s.issueRecord k st).gdr = s.gdr ∧ (s.issueRecord k st).dpu = s.dpu ∧ (s.issueRecord k st).tbs = s.tbs ∧
      (s.issueRecord k st).lnk = s.lnk ∧ (s.issueRecord k st).cmp = s.cmp ∧ (s.issueRecord k st).evu = s.evu ∧
      (s.issueRecord k st).pending = s.pending ∧ (s.issueRecord k st).lsv.line = s.lsv.line ∧
      (s.issueRecord k st).lsv.reason = s.lsv.reason ∧ (s.issueRecord k st).lsv.further = s.lsv.further ∧
      (s.issueRecord k st).lsv.stopRequest = s.lsv.stopRequest ∧ (s.issueRecord k st).lsv.running = s.lsv.running ∧
      (s.issueRecord k st).lsv.stopScheduled = s.lsv.stopScheduled ∧
      (s.issueRecord k st).lsv.idleMark = s.lsv.idleMark ∧ (s.issueRecord k st).lsv.idleReached = s.lsv.idleReached ∧
      (s.issueRecord k st).lsv.idleRaised = s.lsv.idleRaised := by
  unfold State.issueRecord; simp

@[simp] theorem State.startBundle_keeps (k : PocketNo) (s : State) :
    (s.startBundle k).trk = s.trk ∧ (s.startBundle k).idu = s.idu ∧ (s.startBundle k).rte = s.rte ∧
      (s.startBundle k).gdr = s.gdr ∧ (s.startBundle k).dpu = s.dpu ∧ (s.startBundle k).tbs = s.tbs ∧
      (s.startBundle k).lnk = s.lnk ∧ (s.startBundle k).cmp = s.cmp ∧ (s.startBundle k).evu = s.evu ∧
      (s.startBundle k).pending = s.pending ∧ (s.startBundle k).lsv.line = s.lsv.line ∧
      (s.startBundle k).lsv.reason = s.lsv.reason ∧ (s.startBundle k).lsv.further = s.lsv.further ∧
      (s.startBundle k).lsv.stopRequest = s.lsv.stopRequest ∧ (s.startBundle k).lsv.running = s.lsv.running ∧
      (s.startBundle k).lsv.stopScheduled = s.lsv.stopScheduled ∧ (s.startBundle k).lsv.idleMark = s.lsv.idleMark ∧
      (s.startBundle k).lsv.idleReached = s.lsv.idleReached ∧ (s.startBundle k).lsv.idleRaised = s.lsv.idleRaised ∧
      (s.startBundle k).pkm.nextBundle = s.pkm.nextBundle := by
  unfold State.startBundle; simp

@[simp] theorem State.fillOrder_keeps (k : PocketNo) (s : State) :
    (s.fillOrder k).trk = s.trk ∧ (s.fillOrder k).idu = s.idu ∧ (s.fillOrder k).rte = s.rte ∧
      (s.fillOrder k).gdr = s.gdr ∧ (s.fillOrder k).dpu = s.dpu ∧ (s.fillOrder k).tbs = s.tbs ∧
      (s.fillOrder k).lnk = s.lnk ∧ (s.fillOrder k).cmp = s.cmp ∧ (s.fillOrder k).evu = s.evu ∧
      (s.fillOrder k).pending = s.pending ∧ (s.fillOrder k).lsv.line = s.lsv.line ∧
      (s.fillOrder k).lsv.reason = s.lsv.reason ∧ (s.fillOrder k).lsv.further = s.lsv.further ∧
      (s.fillOrder k).lsv.stopRequest = s.lsv.stopRequest ∧ (s.fillOrder k).lsv.running = s.lsv.running ∧
      (s.fillOrder k).lsv.stopScheduled = s.lsv.stopScheduled ∧ (s.fillOrder k).lsv.idleMark = s.lsv.idleMark ∧
      (s.fillOrder k).lsv.idleReached = s.lsv.idleReached ∧ (s.fillOrder k).lsv.idleRaised = s.lsv.idleRaised ∧
      (s.fillOrder k).pkm.nextBundle = s.pkm.nextBundle := by
  unfold State.fillOrder; dsimp only; (repeat' split) <;> simp

@[simp] theorem State.issueRemoved_keeps (k : PocketNo) (s : State) :
    (s.issueRemoved k).trk = s.trk ∧ (s.issueRemoved k).idu = s.idu ∧ (s.issueRemoved k).rte = s.rte ∧
      (s.issueRemoved k).gdr = s.gdr ∧ (s.issueRemoved k).dpu = s.dpu ∧ (s.issueRemoved k).tbs = s.tbs ∧
      (s.issueRemoved k).lnk = s.lnk ∧ (s.issueRemoved k).cmp = s.cmp ∧ (s.issueRemoved k).evu = s.evu ∧
      (s.issueRemoved k).pending = s.pending ∧ (s.issueRemoved k).lsv.line = s.lsv.line ∧
      (s.issueRemoved k).lsv.reason = s.lsv.reason ∧ (s.issueRemoved k).lsv.further = s.lsv.further ∧
      (s.issueRemoved k).lsv.stopRequest = s.lsv.stopRequest ∧ (s.issueRemoved k).lsv.running = s.lsv.running ∧
      (s.issueRemoved k).lsv.stopScheduled = s.lsv.stopScheduled ∧ (s.issueRemoved k).lsv.idleMark = s.lsv.idleMark ∧
      (s.issueRemoved k).lsv.idleReached = s.lsv.idleReached ∧ (s.issueRemoved k).lsv.idleRaised = s.lsv.idleRaised := by
  unfold State.issueRemoved; dsimp only; (repeat' split) <;> simp

@[simp] theorem State.nearFullTest_keeps (s : State) :
    (s.nearFullTest).trk = s.trk ∧ (s.nearFullTest).idu = s.idu ∧ (s.nearFullTest).rte = s.rte ∧
      (s.nearFullTest).pkm = s.pkm ∧ (s.nearFullTest).gdr = s.gdr ∧ (s.nearFullTest).dpu = s.dpu ∧
      (s.nearFullTest).tbs = s.tbs ∧ (s.nearFullTest).lnk = s.lnk ∧ (s.nearFullTest).cmp = s.cmp ∧
      (s.nearFullTest).pending = s.pending ∧ (s.nearFullTest).lsv.line = s.lsv.line ∧
      (s.nearFullTest).lsv.reason = s.lsv.reason ∧ (s.nearFullTest).lsv.further = s.lsv.further ∧
      (s.nearFullTest).lsv.stopRequest = s.lsv.stopRequest ∧ (s.nearFullTest).lsv.running = s.lsv.running ∧
      (s.nearFullTest).lsv.stopScheduled = s.lsv.stopScheduled ∧ (s.nearFullTest).lsv.idleMark = s.lsv.idleMark ∧
      (s.nearFullTest).lsv.idleReached = s.lsv.idleReached ∧ (s.nearFullTest).lsv.idleRaised = s.lsv.idleRaised ∧
      (s.nearFullTest).evu.enable = s.evu.enable ∧ (s.nearFullTest).evu.frameNumber = s.evu.frameNumber ∧
      (s.nearFullTest).evu.counters = s.evu.counters := by
  unfold State.nearFullTest; (repeat' split) <;> simp

@[simp] theorem State.enterHaltStopping_keeps (c : HaltCause) (s : State) :
    (s.enterHaltStopping c).trk = s.trk ∧ (s.enterHaltStopping c).idu = s.idu ∧ (s.enterHaltStopping c).rte = s.rte ∧
      (s.enterHaltStopping c).pkm = s.pkm ∧ (s.enterHaltStopping c).gdr = s.gdr ∧
      (s.enterHaltStopping c).dpu = s.dpu ∧ (s.enterHaltStopping c).tbs = s.tbs ∧
      (s.enterHaltStopping c).lnk = s.lnk ∧ (s.enterHaltStopping c).cmp = s.cmp ∧
      (s.enterHaltStopping c).pending = s.pending ∧ (s.enterHaltStopping c).evu.enable = s.evu.enable ∧
      (s.enterHaltStopping c).evu.frameNumber = s.evu.frameNumber ∧
      (s.enterHaltStopping c).evu.counters = s.evu.counters ∧ (s.enterHaltStopping c).lsv.running = s.lsv.running ∧
      (s.enterHaltStopping c).lsv.idleMark = s.lsv.idleMark ∧
      (s.enterHaltStopping c).lsv.idleReached = s.lsv.idleReached ∧
      (s.enterHaltStopping c).lsv.idleRaised = s.lsv.idleRaised := by
  unfold State.enterHaltStopping; simp

@[simp] theorem State.haltCause_keeps (c : HaltCause) (s : State) :
    (s.haltCause c).trk = s.trk ∧ (s.haltCause c).idu = s.idu ∧ (s.haltCause c).rte = s.rte ∧
      (s.haltCause c).pkm = s.pkm ∧ (s.haltCause c).gdr = s.gdr ∧ (s.haltCause c).dpu = s.dpu ∧
      (s.haltCause c).tbs = s.tbs ∧ (s.haltCause c).lnk = s.lnk ∧ (s.haltCause c).cmp = s.cmp ∧
      (s.haltCause c).pending = s.pending ∧ (s.haltCause c).evu.enable = s.evu.enable ∧
      (s.haltCause c).evu.frameNumber = s.evu.frameNumber ∧ (s.haltCause c).evu.counters = s.evu.counters ∧
      (s.haltCause c).lsv.running = s.lsv.running ∧ (s.haltCause c).lsv.idleMark = s.lsv.idleMark ∧
      (s.haltCause c).lsv.idleReached = s.lsv.idleReached ∧ (s.haltCause c).lsv.idleRaised = s.lsv.idleRaised := by
  unfold State.haltCause; (repeat' split) <;> simp

@[simp] theorem State.closePure_keeps (d : Nat) (s : State) :
    (s.closePure d).trk = s.trk ∧ (s.closePure d).idu = s.idu ∧ (s.closePure d).rte = s.rte ∧
      (s.closePure d).gdr = s.gdr ∧ (s.closePure d).dpu = s.dpu ∧ (s.closePure d).tbs = s.tbs ∧
      (s.closePure d).lnk = s.lnk ∧ (s.closePure d).cmp = s.cmp ∧ (s.closePure d).evu = s.evu ∧
      (s.closePure d).pending = s.pending ∧ (s.closePure d).lsv.line = s.lsv.line ∧
      (s.closePure d).lsv.reason = s.lsv.reason ∧ (s.closePure d).lsv.further = s.lsv.further ∧
      (s.closePure d).lsv.stopRequest = s.lsv.stopRequest ∧ (s.closePure d).lsv.running = s.lsv.running ∧
      (s.closePure d).lsv.stopScheduled = s.lsv.stopScheduled ∧ (s.closePure d).lsv.idleMark = s.lsv.idleMark ∧
      (s.closePure d).lsv.idleReached = s.lsv.idleReached ∧ (s.closePure d).lsv.idleRaised = s.lsv.idleRaised ∧
      (s.closePure d).pkm.nextBundle = s.pkm.nextBundle := by
  unfold State.closePure
  refine ⟨?_, ?_, ?_, ?_, ?_, ?_, ?_, ?_, ?_, ?_, ?_, ?_, ?_, ?_, ?_, ?_, ?_, ?_, ?_, ?_⟩
  · exact foldl_keeps (fun s => s.trk) (fun s k => by split <;> simp) allPockets s
  · exact foldl_keeps (fun s => s.idu) (fun s k => by split <;> simp) allPockets s
  · exact foldl_keeps (fun s => s.rte) (fun s k => by split <;> simp) allPockets s
  · exact foldl_keeps (fun s => s.gdr) (fun s k => by split <;> simp) allPockets s
  · exact foldl_keeps (fun s => s.dpu) (fun s k => by split <;> simp) allPockets s
  · exact foldl_keeps (fun s => s.tbs) (fun s k => by split <;> simp) allPockets s
  · exact foldl_keeps (fun s => s.lnk) (fun s k => by split <;> simp) allPockets s
  · exact foldl_keeps (fun s => s.cmp) (fun s k => by split <;> simp) allPockets s
  · exact foldl_keeps (fun s => s.evu) (fun s k => by split <;> simp) allPockets s
  · exact foldl_keeps (fun s => s.pending) (fun s k => by split <;> simp) allPockets s
  · exact foldl_keeps (fun s => s.lsv.line) (fun s k => by split <;> simp) allPockets s
  · exact foldl_keeps (fun s => s.lsv.reason) (fun s k => by split <;> simp) allPockets s
  · exact foldl_keeps (fun s => s.lsv.further) (fun s k => by split <;> simp) allPockets s
  · exact foldl_keeps (fun s => s.lsv.stopRequest) (fun s k => by split <;> simp) allPockets s
  · exact foldl_keeps (fun s => s.lsv.running) (fun s k => by split <;> simp) allPockets s
  · exact foldl_keeps (fun s => s.lsv.stopScheduled) (fun s k => by split <;> simp) allPockets s
  · exact foldl_keeps (fun s => s.lsv.idleMark) (fun s k => by split <;> simp) allPockets s
  · exact foldl_keeps (fun s => s.lsv.idleReached) (fun s k => by split <;> simp) allPockets s
  · exact foldl_keeps (fun s => s.lsv.idleRaised) (fun s k => by split <;> simp) allPockets s
  · exact foldl_keeps (fun s => s.pkm.nextBundle) (fun s k => by split <;> simp) allPockets s

@[simp] theorem State.changeBanks_keeps (s : State) :
    (s.changeBanks).trk = s.trk ∧ (s.changeBanks).idu = s.idu ∧ (s.changeBanks).rte = s.rte ∧
      (s.changeBanks).gdr = s.gdr ∧ (s.changeBanks).dpu = s.dpu ∧ (s.changeBanks).tbs = s.tbs ∧
      (s.changeBanks).lnk = s.lnk ∧ (s.changeBanks).cmp = s.cmp ∧ (s.changeBanks).evu = s.evu ∧
      (s.changeBanks).pending = s.pending ∧ (s.changeBanks).lsv.line = s.lsv.line ∧
      (s.changeBanks).lsv.reason = s.lsv.reason ∧ (s.changeBanks).lsv.further = s.lsv.further ∧
      (s.changeBanks).lsv.stopRequest = s.lsv.stopRequest ∧ (s.changeBanks).lsv.running = s.lsv.running ∧
      (s.changeBanks).lsv.stopScheduled = s.lsv.stopScheduled ∧ (s.changeBanks).lsv.idleMark = s.lsv.idleMark ∧
      (s.changeBanks).lsv.idleReached = s.lsv.idleReached ∧ (s.changeBanks).lsv.idleRaised = s.lsv.idleRaised ∧
      (s.changeBanks).pkm.nextBundle = s.pkm.nextBundle := by
  unfold State.changeBanks
  refine ⟨?_, ?_, ?_, ?_, ?_, ?_, ?_, ?_, ?_, ?_, ?_, ?_, ?_, ?_, ?_, ?_, ?_, ?_, ?_, ?_⟩
  · exact foldl_keeps (fun s => s.trk) (fun s k => by simp) allPockets s
  · exact foldl_keeps (fun s => s.idu) (fun s k => by simp) allPockets s
  · exact foldl_keeps (fun s => s.rte) (fun s k => by simp) allPockets s
  · exact foldl_keeps (fun s => s.gdr) (fun s k => by simp) allPockets s
  · exact foldl_keeps (fun s => s.dpu) (fun s k => by simp) allPockets s
  · exact foldl_keeps (fun s => s.tbs) (fun s k => by simp) allPockets s
  · exact foldl_keeps (fun s => s.lnk) (fun s k => by simp) allPockets s
  · exact foldl_keeps (fun s => s.cmp) (fun s k => by simp) allPockets s
  · exact foldl_keeps (fun s => s.evu) (fun s k => by simp) allPockets s
  · exact foldl_keeps (fun s => s.pending) (fun s k => by simp) allPockets s
  · exact foldl_keeps (fun s => s.lsv.line) (fun s k => by simp) allPockets s
  · exact foldl_keeps (fun s => s.lsv.reason) (fun s k => by simp) allPockets s
  · exact foldl_keeps (fun s => s.lsv.further) (fun s k => by simp) allPockets s
  · exact foldl_keeps (fun s => s.lsv.stopRequest) (fun s k => by simp) allPockets s
  · exact foldl_keeps (fun s => s.lsv.running) (fun s k => by simp) allPockets s
  · exact foldl_keeps (fun s => s.lsv.stopScheduled) (fun s k => by simp) allPockets s
  · exact foldl_keeps (fun s => s.lsv.idleMark) (fun s k => by simp) allPockets s
  · exact foldl_keeps (fun s => s.lsv.idleReached) (fun s k => by simp) allPockets s
  · exact foldl_keeps (fun s => s.lsv.idleRaised) (fun s k => by simp) allPockets s
  · exact foldl_keeps (fun s => s.pkm.nextBundle) (fun s k => by simp) allPockets s

@[simp] theorem State.heldBack_keeps (s : State) :
    (s.heldBack).trk = s.trk ∧ (s.heldBack).idu = s.idu ∧ (s.heldBack).rte = s.rte ∧ (s.heldBack).gdr = s.gdr ∧
      (s.heldBack).dpu = s.dpu ∧ (s.heldBack).tbs = s.tbs ∧ (s.heldBack).lnk = s.lnk ∧ (s.heldBack).cmp = s.cmp ∧
      (s.heldBack).evu = s.evu ∧ (s.heldBack).pending = s.pending ∧ (s.heldBack).lsv.line = s.lsv.line ∧
      (s.heldBack).lsv.reason = s.lsv.reason ∧ (s.heldBack).lsv.further = s.lsv.further ∧
      (s.heldBack).lsv.stopRequest = s.lsv.stopRequest ∧ (s.heldBack).lsv.running = s.lsv.running ∧
      (s.heldBack).lsv.stopScheduled = s.lsv.stopScheduled ∧ (s.heldBack).lsv.idleMark = s.lsv.idleMark ∧
      (s.heldBack).lsv.idleReached = s.lsv.idleReached ∧ (s.heldBack).lsv.idleRaised = s.lsv.idleRaised := by
  unfold State.heldBack
  refine ⟨?_, ?_, ?_, ?_, ?_, ?_, ?_, ?_, ?_, ?_, ?_, ?_, ?_, ?_, ?_, ?_, ?_, ?_, ?_⟩
  · exact foldl_keeps (fun s => s.trk) (fun s k => by simp) allPockets s
  · exact foldl_keeps (fun s => s.idu) (fun s k => by simp) allPockets s
  · exact foldl_keeps (fun s => s.rte) (fun s k => by simp) allPockets s
  · exact foldl_keeps (fun s => s.gdr) (fun s k => by simp) allPockets s
  · exact foldl_keeps (fun s => s.dpu) (fun s k => by simp) allPockets s
  · exact foldl_keeps (fun s => s.tbs) (fun s k => by simp) allPockets s
  · exact foldl_keeps (fun s => s.lnk) (fun s k => by simp) allPockets s
  · exact foldl_keeps (fun s => s.cmp) (fun s k => by simp) allPockets s
  · exact foldl_keeps (fun s => s.evu) (fun s k => by simp) allPockets s
  · exact foldl_keeps (fun s => s.pending) (fun s k => by simp) allPockets s
  · exact foldl_keeps (fun s => s.lsv.line) (fun s k => by simp) allPockets s
  · exact foldl_keeps (fun s => s.lsv.reason) (fun s k => by simp) allPockets s
  · exact foldl_keeps (fun s => s.lsv.further) (fun s k => by simp) allPockets s
  · exact foldl_keeps (fun s => s.lsv.stopRequest) (fun s k => by simp) allPockets s
  · exact foldl_keeps (fun s => s.lsv.running) (fun s k => by simp) allPockets s
  · exact foldl_keeps (fun s => s.lsv.stopScheduled) (fun s k => by simp) allPockets s
  · exact foldl_keeps (fun s => s.lsv.idleMark) (fun s k => by simp) allPockets s
  · exact foldl_keeps (fun s => s.lsv.idleReached) (fun s k => by simp) allPockets s
  · exact foldl_keeps (fun s => s.lsv.idleRaised) (fun s k => by simp) allPockets s

@[simp] theorem State.completeDeposit_keeps (d : Nat) (s : State) :
    (s.completeDeposit d).trk = s.trk ∧ (s.completeDeposit d).idu = s.idu ∧ (s.completeDeposit d).rte = s.rte ∧
      (s.completeDeposit d).gdr = s.gdr ∧ (s.completeDeposit d).tbs = s.tbs ∧ (s.completeDeposit d).lnk = s.lnk ∧
      (s.completeDeposit d).cmp = s.cmp ∧ (s.completeDeposit d).evu = s.evu ∧
      (s.completeDeposit d).pending = s.pending ∧ (s.completeDeposit d).lsv.line = s.lsv.line ∧
      (s.completeDeposit d).lsv.reason = s.lsv.reason ∧ (s.completeDeposit d).lsv.further = s.lsv.further ∧
      (s.completeDeposit d).lsv.stopRequest = s.lsv.stopRequest ∧ (s.completeDeposit d).lsv.running = s.lsv.running ∧
      (s.completeDeposit d).lsv.stopScheduled = s.lsv.stopScheduled ∧
      (s.completeDeposit d).lsv.idleMark = s.lsv.idleMark ∧
      (s.completeDeposit d).lsv.idleReached = s.lsv.idleReached ∧
      (s.completeDeposit d).lsv.idleRaised = s.lsv.idleRaised ∧
      (s.completeDeposit d).dpu.declarations = s.dpu.declarations ∧
      (s.completeDeposit d).dpu.nextDeposit = s.dpu.nextDeposit := by
  unfold State.completeDeposit; simp

@[simp] theorem State.completionTest_keeps (d : Nat) (s : State) :
    (s.completionTest d).trk = s.trk ∧ (s.completionTest d).idu = s.idu ∧ (s.completionTest d).rte = s.rte ∧
      (s.completionTest d).gdr = s.gdr ∧ (s.completionTest d).tbs = s.tbs ∧ (s.completionTest d).lnk = s.lnk ∧
      (s.completionTest d).cmp = s.cmp ∧ (s.completionTest d).evu = s.evu ∧
      (s.completionTest d).pending = s.pending ∧ (s.completionTest d).lsv.line = s.lsv.line ∧
      (s.completionTest d).lsv.reason = s.lsv.reason ∧ (s.completionTest d).lsv.further = s.lsv.further ∧
      (s.completionTest d).lsv.stopRequest = s.lsv.stopRequest ∧ (s.completionTest d).lsv.running = s.lsv.running ∧
      (s.completionTest d).lsv.stopScheduled = s.lsv.stopScheduled ∧
      (s.completionTest d).lsv.idleMark = s.lsv.idleMark ∧ (s.completionTest d).lsv.idleReached = s.lsv.idleReached ∧
      (s.completionTest d).lsv.idleRaised = s.lsv.idleRaised ∧
      (s.completionTest d).dpu.declarations = s.dpu.declarations ∧
      (s.completionTest d).dpu.nextDeposit = s.dpu.nextDeposit := by
  unfold State.completionTest; (repeat' split) <;> simp

@[simp] theorem State.endActive_keeps (e : EndKind) (s : State) :
    (s.endActive e).trk = s.trk ∧ (s.endActive e).idu = s.idu ∧ (s.endActive e).rte = s.rte ∧
      (s.endActive e).gdr = s.gdr ∧ (s.endActive e).tbs = s.tbs ∧ (s.endActive e).lnk = s.lnk ∧
      (s.endActive e).cmp = s.cmp ∧ (s.endActive e).evu = s.evu ∧ (s.endActive e).pending = s.pending ∧
      (s.endActive e).lsv.line = s.lsv.line ∧ (s.endActive e).lsv.reason = s.lsv.reason ∧
      (s.endActive e).lsv.further = s.lsv.further ∧ (s.endActive e).lsv.stopRequest = s.lsv.stopRequest ∧
      (s.endActive e).lsv.running = s.lsv.running ∧ (s.endActive e).lsv.stopScheduled = s.lsv.stopScheduled ∧
      (s.endActive e).lsv.idleMark = s.lsv.idleMark ∧ (s.endActive e).lsv.idleReached = s.lsv.idleReached ∧
      (s.endActive e).lsv.idleRaised = s.lsv.idleRaised ∧ (s.endActive e).dpu.declarations = s.dpu.declarations ∧
      (s.endActive e).dpu.nextDeposit = s.dpu.nextDeposit := by
  unfold State.endActive; (repeat' split) <;> simp

@[simp] theorem State.assign_keeps (d : Nat) (s : State) :
    (s.assign d).trk = s.trk ∧ (s.assign d).idu = s.idu ∧ (s.assign d).rte = s.rte ∧ (s.assign d).pkm = s.pkm ∧
      (s.assign d).gdr = s.gdr ∧ (s.assign d).tbs = s.tbs ∧ (s.assign d).lsv = s.lsv ∧ (s.assign d).lnk = s.lnk ∧
      (s.assign d).cmp = s.cmp ∧ (s.assign d).evu = s.evu ∧ (s.assign d).pending = s.pending ∧
      (s.assign d).dpu.completion = s.dpu.completion ∧ (s.assign d).dpu.declarations = s.dpu.declarations ∧
      (s.assign d).dpu.nextDeposit = s.dpu.nextDeposit := by
  unfold State.assign; simp

@[simp] theorem State.gateEnter_keeps (k : PocketNo) (s : State) :
    (s.gateEnter k).trk = s.trk ∧ (s.gateEnter k).idu = s.idu ∧ (s.gateEnter k).rte = s.rte ∧
      (s.gateEnter k).pkm = s.pkm ∧ (s.gateEnter k).dpu = s.dpu ∧ (s.gateEnter k).tbs = s.tbs ∧
      (s.gateEnter k).lsv = s.lsv ∧ (s.gateEnter k).lnk = s.lnk ∧ (s.gateEnter k).cmp = s.cmp ∧
      (s.gateEnter k).evu = s.evu ∧ (s.gateEnter k).pending = s.pending := by
  unfold State.gateEnter; simp

@[simp] theorem State.gateLeave_keeps (k : PocketNo) (s : State) :
    (s.gateLeave k).trk = s.trk ∧ (s.gateLeave k).idu = s.idu ∧ (s.gateLeave k).rte = s.rte ∧
      (s.gateLeave k).pkm = s.pkm ∧ (s.gateLeave k).dpu = s.dpu ∧ (s.gateLeave k).tbs = s.tbs ∧
      (s.gateLeave k).lsv = s.lsv ∧ (s.gateLeave k).lnk = s.lnk ∧ (s.gateLeave k).cmp = s.cmp ∧
      (s.gateLeave k).evu = s.evu ∧ (s.gateLeave k).pending = s.pending := by
  unfold State.gateLeave; simp

@[simp] theorem State.leaveGateOf_keeps (e : Entry) (s : State) :
    (s.leaveGateOf e).trk = s.trk ∧ (s.leaveGateOf e).idu = s.idu ∧ (s.leaveGateOf e).rte = s.rte ∧
      (s.leaveGateOf e).pkm = s.pkm ∧ (s.leaveGateOf e).dpu = s.dpu ∧ (s.leaveGateOf e).tbs = s.tbs ∧
      (s.leaveGateOf e).lsv = s.lsv ∧ (s.leaveGateOf e).lnk = s.lnk ∧ (s.leaveGateOf e).cmp = s.cmp ∧
      (s.leaveGateOf e).evu = s.evu ∧ (s.leaveGateOf e).pending = s.pending := by
  unfold State.leaveGateOf; (repeat' split) <;> simp

@[simp] theorem State.leaveStandby_keeps (s : State) :
    (s.leaveStandby).trk = s.trk ∧ (s.leaveStandby).idu = s.idu ∧ (s.leaveStandby).rte = s.rte ∧
      (s.leaveStandby).pkm = s.pkm ∧ (s.leaveStandby).gdr = s.gdr ∧ (s.leaveStandby).dpu = s.dpu ∧
      (s.leaveStandby).tbs = s.tbs ∧ (s.leaveStandby).lnk = s.lnk ∧ (s.leaveStandby).cmp = s.cmp ∧
      (s.leaveStandby).evu = s.evu ∧ (s.leaveStandby).pending = s.pending ∧
      (s.leaveStandby).lsv.reason = s.lsv.reason ∧ (s.leaveStandby).lsv.further = s.lsv.further ∧
      (s.leaveStandby).lsv.stopRequest = s.lsv.stopRequest ∧ (s.leaveStandby).lsv.running = s.lsv.running ∧
      (s.leaveStandby).lsv.stopScheduled = s.lsv.stopScheduled ∧ (s.leaveStandby).lsv.idleMark = s.lsv.idleMark ∧
      (s.leaveStandby).lsv.idleReached = s.lsv.idleReached ∧ (s.leaveStandby).lsv.idleRaised = s.lsv.idleRaised ∧
      (s.leaveStandby).lsv.holds = s.lsv.holds := by
  unfold State.leaveStandby; (repeat' split) <;> simp

@[simp] theorem State.swap_keeps (s : State) :
    (s.swap).trk = s.trk ∧ (s.swap).idu = s.idu ∧ (s.swap).rte = s.rte ∧ (s.swap).gdr = s.gdr ∧
      (s.swap).dpu = s.dpu ∧ (s.swap).lnk = s.lnk ∧ (s.swap).cmp = s.cmp ∧ (s.swap).pending = s.pending ∧
      (s.swap).lsv.reason = s.lsv.reason ∧ (s.swap).lsv.further = s.lsv.further ∧
      (s.swap).lsv.stopRequest = s.lsv.stopRequest ∧ (s.swap).lsv.running = s.lsv.running ∧
      (s.swap).lsv.stopScheduled = s.lsv.stopScheduled ∧ (s.swap).lsv.idleMark = s.lsv.idleMark ∧
      (s.swap).lsv.idleReached = s.lsv.idleReached ∧ (s.swap).lsv.idleRaised = s.lsv.idleRaised ∧
      (s.swap).evu.enable = s.evu.enable ∧ (s.swap).evu.frameNumber = s.evu.frameNumber ∧
      (s.swap).evu.counters = s.evu.counters ∧ (s.swap).tbs.params = s.tbs.params := by
  unfold State.swap; simp [TableStore.exchange]

@[simp] theorem State.swapTrigger_keeps (s : State) :
    (s.swapTrigger).trk = s.trk ∧ (s.swapTrigger).idu = s.idu ∧ (s.swapTrigger).rte = s.rte ∧
      (s.swapTrigger).gdr = s.gdr ∧ (s.swapTrigger).dpu = s.dpu ∧ (s.swapTrigger).lnk = s.lnk ∧
      (s.swapTrigger).cmp = s.cmp ∧ (s.swapTrigger).pending = s.pending ∧ (s.swapTrigger).lsv.reason = s.lsv.reason ∧
      (s.swapTrigger).lsv.further = s.lsv.further ∧ (s.swapTrigger).lsv.stopRequest = s.lsv.stopRequest ∧
      (s.swapTrigger).lsv.running = s.lsv.running ∧ (s.swapTrigger).lsv.stopScheduled = s.lsv.stopScheduled ∧
      (s.swapTrigger).lsv.idleMark = s.lsv.idleMark ∧ (s.swapTrigger).lsv.idleReached = s.lsv.idleReached ∧
      (s.swapTrigger).lsv.idleRaised = s.lsv.idleRaised ∧ (s.swapTrigger).evu.enable = s.evu.enable ∧
      (s.swapTrigger).evu.frameNumber = s.evu.frameNumber ∧ (s.swapTrigger).evu.counters = s.evu.counters ∧
      (s.swapTrigger).tbs.params = s.tbs.params := by
  unfold State.swapTrigger; (repeat' split) <;> simp

@[simp] theorem State.enterReady_keeps (s : State) :
    (s.enterReady).trk = s.trk ∧ (s.enterReady).idu = s.idu ∧ (s.enterReady).rte = s.rte ∧
      (s.enterReady).gdr = s.gdr ∧ (s.enterReady).dpu = s.dpu ∧ (s.enterReady).lnk = s.lnk ∧
      (s.enterReady).cmp = s.cmp ∧ (s.enterReady).pending = s.pending ∧ (s.enterReady).lsv.reason = s.lsv.reason ∧
      (s.enterReady).lsv.further = s.lsv.further ∧ (s.enterReady).lsv.stopRequest = s.lsv.stopRequest ∧
      (s.enterReady).lsv.running = s.lsv.running ∧ (s.enterReady).lsv.stopScheduled = s.lsv.stopScheduled ∧
      (s.enterReady).lsv.idleMark = s.lsv.idleMark ∧ (s.enterReady).lsv.idleReached = s.lsv.idleReached ∧
      (s.enterReady).lsv.idleRaised = s.lsv.idleRaised ∧ (s.enterReady).evu.enable = s.evu.enable ∧
      (s.enterReady).evu.frameNumber = s.evu.frameNumber ∧ (s.enterReady).evu.counters = s.evu.counters ∧
      (s.enterReady).tbs.params = s.tbs.params := by
  unfold State.enterReady; simp

@[simp] theorem State.reportEmpty_keeps (s : State) :
    (s.reportEmpty).trk = s.trk ∧ (s.reportEmpty).idu = s.idu ∧ (s.reportEmpty).rte = s.rte ∧
      (s.reportEmpty).gdr = s.gdr ∧ (s.reportEmpty).dpu = s.dpu ∧ (s.reportEmpty).lnk = s.lnk ∧
      (s.reportEmpty).cmp = s.cmp ∧ (s.reportEmpty).pending = s.pending ∧ (s.reportEmpty).lsv.reason = s.lsv.reason ∧
      (s.reportEmpty).lsv.further = s.lsv.further ∧ (s.reportEmpty).lsv.stopRequest = s.lsv.stopRequest ∧
      (s.reportEmpty).lsv.running = s.lsv.running ∧ (s.reportEmpty).lsv.stopScheduled = s.lsv.stopScheduled ∧
      (s.reportEmpty).lsv.idleMark = s.lsv.idleMark ∧ (s.reportEmpty).lsv.idleReached = s.lsv.idleReached ∧
      (s.reportEmpty).lsv.idleRaised = s.lsv.idleRaised ∧ (s.reportEmpty).evu.enable = s.evu.enable ∧
      (s.reportEmpty).evu.frameNumber = s.evu.frameNumber ∧ (s.reportEmpty).evu.counters = s.evu.counters ∧
      (s.reportEmpty).tbs.params = s.tbs.params := by
  unfold State.reportEmpty; dsimp only; (repeat' split) <;> simp

@[simp] theorem State.dropEntry_keeps (q : Nat) (s : State) :
    (s.dropEntry q).idu = s.idu ∧ (s.dropEntry q).rte = s.rte ∧ (s.dropEntry q).pkm = s.pkm ∧
      (s.dropEntry q).gdr = s.gdr ∧ (s.dropEntry q).dpu = s.dpu ∧ (s.dropEntry q).tbs = s.tbs ∧
      (s.dropEntry q).lnk = s.lnk ∧ (s.dropEntry q).cmp = s.cmp ∧ (s.dropEntry q).evu = s.evu ∧
      (s.dropEntry q).pending = s.pending ∧ (s.dropEntry q).lsv.line = s.lsv.line ∧
      (s.dropEntry q).lsv.reason = s.lsv.reason ∧ (s.dropEntry q).lsv.further = s.lsv.further ∧
      (s.dropEntry q).lsv.stopRequest = s.lsv.stopRequest ∧ (s.dropEntry q).lsv.running = s.lsv.running ∧
      (s.dropEntry q).lsv.stopScheduled = s.lsv.stopScheduled ∧ (s.dropEntry q).lsv.idleMark = s.lsv.idleMark ∧
      (s.dropEntry q).lsv.idleReached = s.lsv.idleReached ∧ (s.dropEntry q).lsv.idleRaised = s.lsv.idleRaised ∧
      (s.dropEntry q).trk.position = s.trk.position ∧ (s.dropEntry q).trk.phase = s.trk.phase ∧
      (s.dropEntry q).trk.eye = s.trk.eye ∧ (s.dropEntry q).trk.nextSeq = s.trk.nextSeq := by
  unfold State.dropEntry; simp

@[simp] theorem State.removeEntry_keeps (q : Nat) (s : State) :
    (s.removeEntry q).idu = s.idu ∧ (s.removeEntry q).rte = s.rte ∧ (s.removeEntry q).gdr = s.gdr ∧
      (s.removeEntry q).dpu = s.dpu ∧ (s.removeEntry q).lnk = s.lnk ∧ (s.removeEntry q).cmp = s.cmp ∧
      (s.removeEntry q).pending = s.pending ∧ (s.removeEntry q).lsv.reason = s.lsv.reason ∧
      (s.removeEntry q).lsv.further = s.lsv.further ∧ (s.removeEntry q).lsv.stopRequest = s.lsv.stopRequest ∧
      (s.removeEntry q).lsv.running = s.lsv.running ∧ (s.removeEntry q).lsv.stopScheduled = s.lsv.stopScheduled ∧
      (s.removeEntry q).lsv.idleMark = s.lsv.idleMark ∧ (s.removeEntry q).lsv.idleReached = s.lsv.idleReached ∧
      (s.removeEntry q).lsv.idleRaised = s.lsv.idleRaised ∧ (s.removeEntry q).evu.enable = s.evu.enable ∧
      (s.removeEntry q).evu.frameNumber = s.evu.frameNumber ∧ (s.removeEntry q).evu.counters = s.evu.counters ∧
      (s.removeEntry q).tbs.params = s.tbs.params ∧ (s.removeEntry q).trk.position = s.trk.position ∧
      (s.removeEntry q).trk.phase = s.trk.phase ∧ (s.removeEntry q).trk.eye = s.trk.eye ∧
      (s.removeEntry q).trk.nextSeq = s.trk.nextSeq := by
  unfold State.removeEntry; dsimp only; (repeat' split) <;> simp

@[simp] theorem State.countDelivery_keeps (e : Entry) (s : State) :
    (s.countDelivery e).trk = s.trk ∧ (s.countDelivery e).idu = s.idu ∧ (s.countDelivery e).rte = s.rte ∧
      (s.countDelivery e).gdr = s.gdr ∧ (s.countDelivery e).tbs = s.tbs ∧ (s.countDelivery e).lnk = s.lnk ∧
      (s.countDelivery e).cmp = s.cmp ∧ (s.countDelivery e).evu = s.evu ∧ (s.countDelivery e).pending = s.pending ∧
      (s.countDelivery e).lsv.line = s.lsv.line ∧ (s.countDelivery e).lsv.reason = s.lsv.reason ∧
      (s.countDelivery e).lsv.further = s.lsv.further ∧ (s.countDelivery e).lsv.stopRequest = s.lsv.stopRequest ∧
      (s.countDelivery e).lsv.running = s.lsv.running ∧ (s.countDelivery e).lsv.stopScheduled = s.lsv.stopScheduled ∧
      (s.countDelivery e).lsv.idleMark = s.lsv.idleMark ∧ (s.countDelivery e).lsv.idleReached = s.lsv.idleReached ∧
      (s.countDelivery e).lsv.idleRaised = s.lsv.idleRaised ∧
      (s.countDelivery e).dpu.declarations = s.dpu.declarations ∧
      (s.countDelivery e).dpu.nextDeposit = s.dpu.nextDeposit := by
  unfold State.countDelivery; (repeat' split) <;> simp

@[simp] theorem State.countInDoubt_keeps (e : Entry) (s : State) :
    (s.countInDoubt e).trk = s.trk ∧ (s.countInDoubt e).idu = s.idu ∧ (s.countInDoubt e).rte = s.rte ∧
      (s.countInDoubt e).gdr = s.gdr ∧ (s.countInDoubt e).tbs = s.tbs ∧ (s.countInDoubt e).lnk = s.lnk ∧
      (s.countInDoubt e).cmp = s.cmp ∧ (s.countInDoubt e).pending = s.pending ∧
      (s.countInDoubt e).lsv.line = s.lsv.line ∧ (s.countInDoubt e).lsv.reason = s.lsv.reason ∧
      (s.countInDoubt e).lsv.further = s.lsv.further ∧ (s.countInDoubt e).lsv.stopRequest = s.lsv.stopRequest ∧
      (s.countInDoubt e).lsv.running = s.lsv.running ∧ (s.countInDoubt e).lsv.stopScheduled = s.lsv.stopScheduled ∧
      (s.countInDoubt e).lsv.idleMark = s.lsv.idleMark ∧ (s.countInDoubt e).lsv.idleReached = s.lsv.idleReached ∧
      (s.countInDoubt e).lsv.idleRaised = s.lsv.idleRaised ∧
      (s.countInDoubt e).dpu.declarations = s.dpu.declarations ∧
      (s.countInDoubt e).dpu.nextDeposit = s.dpu.nextDeposit ∧ (s.countInDoubt e).evu.enable = s.evu.enable ∧
      (s.countInDoubt e).evu.frameNumber = s.evu.frameNumber := by
  unfold State.countInDoubt; (repeat' split) <;> simp

@[simp] theorem State.missPocket_keeps (k : PocketNo) (d : Nat) (s : State) :
    (s.missPocket k d).trk = s.trk ∧ (s.missPocket k d).idu = s.idu ∧ (s.missPocket k d).rte = s.rte ∧
      (s.missPocket k d).gdr = s.gdr ∧ (s.missPocket k d).dpu = s.dpu ∧ (s.missPocket k d).tbs = s.tbs ∧
      (s.missPocket k d).lnk = s.lnk ∧ (s.missPocket k d).cmp = s.cmp ∧ (s.missPocket k d).pending = s.pending ∧
      (s.missPocket k d).lsv.line = s.lsv.line ∧ (s.missPocket k d).lsv.reason = s.lsv.reason ∧
      (s.missPocket k d).lsv.further = s.lsv.further ∧ (s.missPocket k d).lsv.stopRequest = s.lsv.stopRequest ∧
      (s.missPocket k d).lsv.running = s.lsv.running ∧ (s.missPocket k d).lsv.stopScheduled = s.lsv.stopScheduled ∧
      (s.missPocket k d).lsv.idleMark = s.lsv.idleMark ∧ (s.missPocket k d).lsv.idleReached = s.lsv.idleReached ∧
      (s.missPocket k d).lsv.idleRaised = s.lsv.idleRaised ∧ (s.missPocket k d).evu.enable = s.evu.enable ∧
      (s.missPocket k d).evu.frameNumber = s.evu.frameNumber ∧ (s.missPocket k d).evu.counters = s.evu.counters ∧
      (s.missPocket k d).pkm.nextBundle = s.pkm.nextBundle := by
  unfold State.missPocket; dsimp only; (repeat' split) <;> simp

@[simp] theorem State.missEntry_keeps (k : PocketNo) (e : Entry) (s : State) :
    (s.missEntry k e).idu = s.idu ∧ (s.missEntry k e).rte = s.rte ∧ (s.missEntry k e).lnk = s.lnk ∧
      (s.missEntry k e).cmp = s.cmp ∧ (s.missEntry k e).pending = s.pending ∧
      (s.missEntry k e).trk.position = s.trk.position ∧ (s.missEntry k e).trk.phase = s.trk.phase ∧
      (s.missEntry k e).trk.eye = s.trk.eye ∧ (s.missEntry k e).trk.nextSeq = s.trk.nextSeq ∧
      (s.missEntry k e).tbs.params = s.tbs.params ∧ (s.missEntry k e).dpu.declarations = s.dpu.declarations ∧
      (s.missEntry k e).dpu.nextDeposit = s.dpu.nextDeposit ∧ (s.missEntry k e).lsv.running = s.lsv.running ∧
      (s.missEntry k e).lsv.idleMark = s.lsv.idleMark ∧ (s.missEntry k e).lsv.idleReached = s.lsv.idleReached ∧
      (s.missEntry k e).lsv.idleRaised = s.lsv.idleRaised := by
  unfold State.missEntry; simp

@[simp] theorem State.expireGateOn_keeps (q : Nat) (s : State) :
    (s.expireGateOn q).idu = s.idu ∧ (s.expireGateOn q).rte = s.rte ∧ (s.expireGateOn q).pkm = s.pkm ∧
      (s.expireGateOn q).dpu = s.dpu ∧ (s.expireGateOn q).tbs = s.tbs ∧ (s.expireGateOn q).lsv = s.lsv ∧
      (s.expireGateOn q).lnk = s.lnk ∧ (s.expireGateOn q).cmp = s.cmp ∧ (s.expireGateOn q).evu = s.evu ∧
      (s.expireGateOn q).pending = s.pending ∧ (s.expireGateOn q).trk.position = s.trk.position ∧
      (s.expireGateOn q).trk.phase = s.trk.phase ∧ (s.expireGateOn q).trk.eye = s.trk.eye ∧
      (s.expireGateOn q).trk.nextSeq = s.trk.nextSeq := by
  unfold State.expireGateOn; (repeat' split) <;> simp

@[simp] theorem State.expireGateOff_keeps (q : Nat) (s : State) :
    (s.expireGateOff q).idu = s.idu ∧ (s.expireGateOff q).rte = s.rte ∧ (s.expireGateOff q).pkm = s.pkm ∧
      (s.expireGateOff q).dpu = s.dpu ∧ (s.expireGateOff q).tbs = s.tbs ∧ (s.expireGateOff q).lsv = s.lsv ∧
      (s.expireGateOff q).lnk = s.lnk ∧ (s.expireGateOff q).cmp = s.cmp ∧ (s.expireGateOff q).evu = s.evu ∧
      (s.expireGateOff q).pending = s.pending ∧ (s.expireGateOff q).trk.position = s.trk.position ∧
      (s.expireGateOff q).trk.phase = s.trk.phase ∧ (s.expireGateOff q).trk.eye = s.trk.eye ∧
      (s.expireGateOff q).trk.nextSeq = s.trk.nextSeq := by
  unfold State.expireGateOff; (repeat' split) <;> simp

@[simp] theorem State.expireWindow_keeps (q : Nat) (s : State) :
    (s.expireWindow q).idu = s.idu ∧ (s.expireWindow q).rte = s.rte ∧ (s.expireWindow q).lnk = s.lnk ∧
      (s.expireWindow q).cmp = s.cmp ∧ (s.expireWindow q).pending = s.pending ∧
      (s.expireWindow q).trk.position = s.trk.position ∧ (s.expireWindow q).trk.phase = s.trk.phase ∧
      (s.expireWindow q).trk.eye = s.trk.eye ∧ (s.expireWindow q).trk.nextSeq = s.trk.nextSeq ∧
      (s.expireWindow q).tbs.params = s.tbs.params ∧ (s.expireWindow q).dpu.declarations = s.dpu.declarations ∧
      (s.expireWindow q).dpu.nextDeposit = s.dpu.nextDeposit ∧ (s.expireWindow q).lsv.running = s.lsv.running ∧
      (s.expireWindow q).lsv.idleMark = s.lsv.idleMark ∧ (s.expireWindow q).lsv.idleReached = s.lsv.idleReached ∧
      (s.expireWindow q).lsv.idleRaised = s.lsv.idleRaised := by
  unfold State.expireWindow; (repeat' split) <;> simp

@[simp] theorem State.expireReached_keeps (q : Nat) (s : State) :
    (s.expireReached q).idu = s.idu ∧ (s.expireReached q).rte = s.rte ∧ (s.expireReached q).lnk = s.lnk ∧
      (s.expireReached q).cmp = s.cmp ∧ (s.expireReached q).pending = s.pending ∧
      (s.expireReached q).trk.position = s.trk.position ∧ (s.expireReached q).trk.phase = s.trk.phase ∧
      (s.expireReached q).trk.eye = s.trk.eye ∧ (s.expireReached q).trk.nextSeq = s.trk.nextSeq ∧
      (s.expireReached q).tbs.params = s.tbs.params ∧ (s.expireReached q).dpu.declarations = s.dpu.declarations ∧
      (s.expireReached q).dpu.nextDeposit = s.dpu.nextDeposit ∧ (s.expireReached q).lsv.running = s.lsv.running ∧
      (s.expireReached q).lsv.idleMark = s.lsv.idleMark ∧ (s.expireReached q).lsv.idleReached = s.lsv.idleReached ∧
      (s.expireReached q).lsv.idleRaised = s.lsv.idleRaised := by
  unfold State.expireReached; simp

@[simp] theorem State.placeEntry_keeps (q : Nat) (dest : Destination) (face : Option Nat) (k : PocketNo) (s : State) :
    (s.placeEntry q dest face k).idu = s.idu ∧ (s.placeEntry q dest face k).rte = s.rte ∧
      (s.placeEntry q dest face k).lnk = s.lnk ∧ (s.placeEntry q dest face k).cmp = s.cmp ∧
      (s.placeEntry q dest face k).pending = s.pending ∧ (s.placeEntry q dest face k).trk.position = s.trk.position ∧
      (s.placeEntry q dest face k).trk.phase = s.trk.phase ∧ (s.placeEntry q dest face k).trk.eye = s.trk.eye ∧
      (s.placeEntry q dest face k).trk.nextSeq = s.trk.nextSeq ∧
      (s.placeEntry q dest face k).tbs.params = s.tbs.params ∧
      (s.placeEntry q dest face k).dpu.declarations = s.dpu.declarations ∧
      (s.placeEntry q dest face k).dpu.nextDeposit = s.dpu.nextDeposit ∧
      (s.placeEntry q dest face k).lsv.running = s.lsv.running ∧
      (s.placeEntry q dest face k).lsv.idleMark = s.lsv.idleMark ∧
      (s.placeEntry q dest face k).lsv.idleReached = s.lsv.idleReached ∧
      (s.placeEntry q dest face k).lsv.idleRaised = s.lsv.idleRaised := by
  unfold State.placeEntry; simp

@[simp] theorem State.commitReject_keeps (d : Nat) (s : State) :
    (s.commitReject d).trk = s.trk ∧ (s.commitReject d).idu = s.idu ∧ (s.commitReject d).rte = s.rte ∧
      (s.commitReject d).gdr = s.gdr ∧ (s.commitReject d).dpu = s.dpu ∧ (s.commitReject d).tbs = s.tbs ∧
      (s.commitReject d).lnk = s.lnk ∧ (s.commitReject d).cmp = s.cmp ∧ (s.commitReject d).pending = s.pending ∧
      (s.commitReject d).evu.enable = s.evu.enable ∧ (s.commitReject d).evu.frameNumber = s.evu.frameNumber ∧
      (s.commitReject d).evu.counters = s.evu.counters ∧ (s.commitReject d).lsv.running = s.lsv.running ∧
      (s.commitReject d).lsv.idleMark = s.lsv.idleMark ∧ (s.commitReject d).lsv.idleReached = s.lsv.idleReached ∧
      (s.commitReject d).lsv.idleRaised = s.lsv.idleRaised := by
  unfold State.commitReject; dsimp only; (repeat' split) <;> simp

@[simp] theorem State.settleDestination_keeps (q d : Nat) (face : Option Nat) (dest : Destination) (s : State) :
    (s.settleDestination q d face dest).idu = s.idu ∧ (s.settleDestination q d face dest).rte = s.rte ∧
      (s.settleDestination q d face dest).lnk = s.lnk ∧ (s.settleDestination q d face dest).cmp = s.cmp ∧
      (s.settleDestination q d face dest).pending = s.pending ∧
      (s.settleDestination q d face dest).trk.position = s.trk.position ∧
      (s.settleDestination q d face dest).trk.phase = s.trk.phase ∧
      (s.settleDestination q d face dest).trk.eye = s.trk.eye ∧
      (s.settleDestination q d face dest).trk.nextSeq = s.trk.nextSeq ∧
      (s.settleDestination q d face dest).tbs.params = s.tbs.params ∧
      (s.settleDestination q d face dest).dpu.declarations = s.dpu.declarations ∧
      (s.settleDestination q d face dest).dpu.nextDeposit = s.dpu.nextDeposit ∧
      (s.settleDestination q d face dest).lsv.running = s.lsv.running ∧
      (s.settleDestination q d face dest).lsv.idleMark = s.lsv.idleMark ∧
      (s.settleDestination q d face dest).lsv.idleReached = s.lsv.idleReached ∧
      (s.settleDestination q d face dest).lsv.idleRaised = s.lsv.idleRaised := by
  unfold State.settleDestination; (repeat' split) <;> simp

@[simp] theorem State.recordHits_keeps (e : Entry) (n : NoteContents) (hits : List (Fin 32)) (s : State) :
    (s.recordHits e n hits).trk = s.trk ∧ (s.recordHits e n hits).idu = s.idu ∧ (s.recordHits e n hits).pkm = s.pkm ∧
      (s.recordHits e n hits).gdr = s.gdr ∧ (s.recordHits e n hits).dpu = s.dpu ∧
      (s.recordHits e n hits).tbs = s.tbs ∧ (s.recordHits e n hits).lsv = s.lsv ∧
      (s.recordHits e n hits).lnk = s.lnk ∧ (s.recordHits e n hits).cmp = s.cmp ∧
      (s.recordHits e n hits).pending = s.pending ∧ (s.recordHits e n hits).evu.enable = s.evu.enable ∧
      (s.recordHits e n hits).evu.frameNumber = s.evu.frameNumber := by
  unfold State.recordHits; (repeat' split) <;> simp

@[simp] theorem State.routeNote_keeps (q : Nat) (e : Entry) (n : NoteContents) (s : State) :
    (s.routeNote q e n).idu = s.idu ∧ (s.routeNote q e n).lnk = s.lnk ∧ (s.routeNote q e n).cmp = s.cmp ∧
      (s.routeNote q e n).pending = s.pending ∧ (s.routeNote q e n).trk.position = s.trk.position ∧
      (s.routeNote q e n).trk.phase = s.trk.phase ∧ (s.routeNote q e n).trk.eye = s.trk.eye ∧
      (s.routeNote q e n).trk.nextSeq = s.trk.nextSeq ∧ (s.routeNote q e n).tbs.params = s.tbs.params ∧
      (s.routeNote q e n).dpu.declarations = s.dpu.declarations ∧
      (s.routeNote q e n).dpu.nextDeposit = s.dpu.nextDeposit ∧ (s.routeNote q e n).lsv.running = s.lsv.running ∧
      (s.routeNote q e n).lsv.idleMark = s.lsv.idleMark ∧ (s.routeNote q e n).lsv.idleReached = s.lsv.idleReached ∧
      (s.routeNote q e n).lsv.idleRaised = s.lsv.idleRaised := by
  unfold State.routeNote; dsimp only; (repeat' split) <;> simp

@[simp] theorem State.route_keeps (q : Nat) (s : State) :
    (s.route q).idu = s.idu ∧ (s.route q).lnk = s.lnk ∧ (s.route q).cmp = s.cmp ∧ (s.route q).pending = s.pending ∧
      (s.route q).trk.position = s.trk.position ∧ (s.route q).trk.phase = s.trk.phase ∧
      (s.route q).trk.eye = s.trk.eye ∧ (s.route q).trk.nextSeq = s.trk.nextSeq ∧
      (s.route q).tbs.params = s.tbs.params ∧ (s.route q).dpu.declarations = s.dpu.declarations ∧
      (s.route q).dpu.nextDeposit = s.dpu.nextDeposit ∧ (s.route q).lsv.running = s.lsv.running ∧
      (s.route q).lsv.idleMark = s.lsv.idleMark ∧ (s.route q).lsv.idleReached = s.lsv.idleReached ∧
      (s.route q).lsv.idleRaised = s.lsv.idleRaised := by
  unfold State.route; dsimp only; (repeat' split) <;> simp

@[simp] theorem State.replan_keeps (q : Nat) (s : State) :
    (s.replan q).idu = s.idu ∧ (s.replan q).rte = s.rte ∧ (s.replan q).lnk = s.lnk ∧ (s.replan q).cmp = s.cmp ∧
      (s.replan q).pending = s.pending ∧ (s.replan q).trk.position = s.trk.position ∧
      (s.replan q).trk.phase = s.trk.phase ∧ (s.replan q).trk.eye = s.trk.eye ∧
      (s.replan q).trk.nextSeq = s.trk.nextSeq ∧ (s.replan q).tbs.params = s.tbs.params ∧
      (s.replan q).dpu.declarations = s.dpu.declarations ∧ (s.replan q).dpu.nextDeposit = s.dpu.nextDeposit ∧
      (s.replan q).lsv.running = s.lsv.running ∧ (s.replan q).lsv.idleMark = s.lsv.idleMark ∧
      (s.replan q).lsv.idleReached = s.lsv.idleReached ∧ (s.replan q).lsv.idleRaised = s.lsv.idleRaised := by
  unfold State.replan; dsimp only; (repeat' split) <;> simp

end Sys2Proof.Machine
end

