-- ==== Sys2Proof/WellFormed.lean ====
section
/-! DEFINITION. Which commands name something the part can have: a transit entry's sequence is 1 to 65535 (R8), and a
LINK_FRAME_RECEIVED step carries at least one byte. Pocket numbers are in range by their type. -/

namespace Sys2Proof

/-- A sequence number a transit entry can carry (R8: 1 to 65535, never 0). -/
def seqInRange (seq : Nat) : Bool := decide (1 ≤ seq ∧ seq ≤ 65535)

/-- The well-formed commands. An expiry of a sequence outside the range finds no entry and changes nothing (R15). -/
def Instr.wellFormed : Instr → Bool
  | .decisionPointExpiry seq => seqInRange seq
  | .gateOnExpiry seq => seqInRange seq
  | .gateOffExpiry seq => seqInRange seq
  | .windowEndExpiry seq => seqInRange seq
  | .linkFrameReceived bytes => !bytes.isEmpty
  | .reset .. => true
  | .encoderPulse => true
  | .entryEyeBlockingEdge => true
  | .entryEyeClearingEdge => true
  | .jamMarkExpiry => true
  | .idleMarkReached => true
  | .arrival _ => true
  | .arrivalEyeClearingEdge _ => true
  | .emptyEyeEdge .. => true
  | .stackEyeEdge .. => true
  | .runningFallingEdge => true
  | .runningRisingEdge => true
  | .stopEvent => true
  | .intakeTake => true
  | .strapTimerExpiry _ => true
  | .transmissionEnd => true
  | .loadTable => true
  | .copyActiveToShadow => true
  | .commitTables => true
  | .cancelCommit => true
  | .setLineParameters => true
  | .declare => true
  | .withdraw => true
  | .lineControlRun => true
  | .lineControlStop => true
  | .lineControlHalt => true
  | .lineControlResume => true
  | .lineControlClear => true
  | .unknownKind => true
  | .forceDepositEnd => true
  | .pocketControlInhibit => true
  | .pocketControlRelease => true
  | .pocketControlCloseShort => true
  | .pocketControlClear => true
  | .feedHoldSet => true
  | .feedHoldClear => true
  | .intakeRestart => true
  | .eventEnableSet => true
  | .eventEnableClear => true
  | .eventClear => true
  | .countersClear => true
  | .statusQueryLine => true
  | .statusQueryPocket => true
  | .statusQueryDeposits => true
  | .statusQueryTransit => true
  | .statusQueryCounters => true
  | .statusQueryWatch => true
  | .parameterCodeRefusal => true

end Sys2Proof
end

