-- ==== Sys2Proof/Tests/Slice0.lean ====
section
/-! SUPPORT. Tests of single steps on small states, and for each statement with hypotheses a theorem `witness_<Name>` that
shows states and operands meeting them, clause by clause at the boundary values. -/

namespace Sys2Proof.Tests

/- One theorem at a time: many kernel evaluations at once exhaust the threads. -/
set_option Elab.async false

open Sys2Proof Sys2Proof.Machine

/-! ## Small states -/

/-- A reject pocket, a hold pocket and sort pocket 3, with the distances of a short belt. -/
def params : LineParameters :=
  { LineParameters.afterReset with
    inspectionStation := some 1
    strappingStation := some 2
    feedIdle := 300
    geometry := ((((Vector.replicate 16 none).set 0 (some { g := 0, a := 0, h := 0, p := 8000, w := 100 })).set 1
      (some { g := 900, a := 20, h := 10, p := 950, w := 50 })).set 2
      (some { g := 1000, a := 20, h := 10, p := 1050, w := 50 })) }

/-- One denomination, one rule, one class of bundles of 3 in pocket 3. -/
def bank : Bank :=
  { Bank.blank with
    denominations := Bank.blank.denominations.set 0 { enabled := true, face := 500 }
    rules := Bank.blank.rules.set 0 { denominations := 1, series := 255, fitness := 7, orientations := 15, result := .cls 0 }
    classes := Bank.blank.classes.set 0 { pockets := [2], bundleSize := 3, pure := false } }

/-- A loose pocket, open and empty. -/
def loosePocket : Pocket :=
  { Pocket.afterReset with
    state := .open, assignment := some { cls := none, kind := .loose 200 8, pure := false }, limit := 200 }

/-- A strapped pocket of class 0, open and empty. -/
def strapPocket : Pocket :=
  { Pocket.afterReset with
    state := .open, assignment := some { cls := some 0, kind := .strapped 3, pure := false }, limit := 3 }

/-- The line in RUN at position 1000. -/
def line : State :=
  { State.reset with
    trk := { State.reset.trk with position := 1000 }
    pkm := { State.reset.pkm with
      pockets := ((State.reset.pkm.pockets.set 0 loosePocket).set 1 loosePocket).set 2 strapPocket }
    tbs := { active := bank, shadow := bank, generation := 1, swapPending := false, params := params }
    lsv := { State.reset.lsv with line := .run, holds := 0, running := true } }

/-- The line in another state; outside RUN, LINE_NOT_RUN is set. -/
def lineIn (l : LineState) : State :=
  { line with lsv := { line.lsv with line := l, holds := if l = .run then 0 else 1 } }

/-- With another pocket record. -/
def withPocket (s : State) (k : PocketNo) (p : Pocket) : State := s.storePocket k p

/-- With these transit entries. -/
def withQueue (s : State) (q : List Entry) : State := { s with trk := { s.trk with queue := q } }

/-- At another position. -/
def at' (s : State) (p : Position) : State := { s with trk := { s.trk with position := p } }

/-- With the entry eye BLOCKED since a position. -/
def blockedFrom (s : State) (lead : Position) : State :=
  { s with trk := { s.trk with eye := .blocked lead (lead + 768) } }

/-- With the entry eye VOID. -/
def voidEye (s : State) : State := { s with trk := { s.trk with eye := .void } }

/-- With these deposit contexts. -/
def withContexts (s : State) (c : List Context) : State := { s with dpu := { s.dpu with contexts := c } }

/-- With a command at the head of the command queue. -/
def asks (s : State) (kind : Byte) (payload : List Byte) : State :=
  { s with cmp := { s.cmp with
      commands := [{ src := 0, kind := kind, corr := 9, payload := payload, broadcast := false }] } }

/-- That command. -/
def asked (kind : Byte) (payload : List Byte) : QueuedCommand :=
  { src := 0, kind := kind, corr := 9, payload := payload, broadcast := false }

/-- With a frame in the transmit slot. -/
def sending (s : State) : State := { s with lnk := { s.lnk with slot := some { source := .forward, bytes := [0] } } }

/-- An ACTIVE deposit with notes in transit. -/
def deposit (seq inTransit : Nat) : Context :=
  { Context.opening seq (some 5) none with assigned := inTransit, inTransit := inTransit }

/-- A genuine note of denomination 0. -/
def note : NoteContents :=
  { kind := .note, fault := false, denomination := some 0, series := 0, orientation := .faceUpHead, verdict := .genuine,
    fitness := .fit, card := .absent, serial := [0x41, 0x42] }

/-- A SEEN entry that cleared at position 980. -/
def seen (seq : Nat) : Entry := { State.newEntry (at' line 980) 900 false with seq := seq }

/-- An entry resolved to that note for deposit 1, at pocket 3 with its marks. -/
def placed (seq : Nat) (st : EntryState) : Entry :=
  { seen seq with
    state := st, resolution := some (.frame note), deposit := some 1, generation := some 1, faceValue := some 500,
    denomination := some 0, destination := some (.cls 0), pocket := some 2, gateOn := some 1880, gateOff := some 1990,
    windowStart := some 1900, windowEnd := some 2000 }

/-- Pocket 3 with one note of deposit 1 committed. -/
def strapCommitted : Pocket :=
  { strapPocket with committed := 1, bundle := some 1, contributions := [{ deposit := 1, committed := 1, delivered := 0 }] }

/-- The line with one note of deposit 1 on its way to pocket 3. -/
def carrying (st : EntryState) : State :=
  withContexts (withPocket (withQueue line [placed 1 st]) 2 strapCommitted) [deposit 1 1]

/-- What a take of a command leaves, seen through one function. -/
def after (o : Host.Outcome State Fault Refusal) (f : State → α) : Option α :=
  match o with
  | .next t => some (f t)
  | .fault _ => none
  | .refused _ => none

/-! ## Well-formedness: each check refuses -/

theorem test_wellFormed_refuses_decision : Instr.wellFormed (.decisionPointExpiry 0) = false := by decide
theorem test_wellFormed_refuses_gateOn : Instr.wellFormed (.gateOnExpiry 0) = false := by decide
theorem test_wellFormed_refuses_gateOff : Instr.wellFormed (.gateOffExpiry 65536) = false := by decide
theorem test_wellFormed_refuses_windowEnd : Instr.wellFormed (.windowEndExpiry 65536) = false := by decide
theorem test_wellFormed_refuses_no_bytes : Instr.wellFormed (.linkFrameReceived []) = false := by decide
theorem test_wellFormed_accepts : Instr.wellFormed (.windowEndExpiry 65535) = true := by decide

/-! ## The frame check, with the values R162 gives -/

/-- 09_the_line_link.md, after Table 9-4: the nine bytes 0x31 to 0x39. -/
theorem test_crc_digits : crc [0x31, 0x32, 0x33, 0x34, 0x35, 0x36, 0x37, 0x38, 0x39] = 0x29B1 := by decide +kernel

/-- 09_the_line_link.md: the worked frame DEST 7, SRC 0, KIND 0x21, CORR 1. -/
theorem test_crc_frame : frameBytes 7 0 0x21 1 [] = [0xC3, 0x05, 0x07, 0x00, 0x21, 0x01, 0xF0, 0x1B] := by decide +kernel

/-! ## Steps of the spec's worked sequences -/

/-- Table 13-1, step 1: COMMIT_TABLES after power-on is refused INVALID_TABLES with check 3. -/
theorem test_commit_at_reset :
    after (exec .commitTables (asks State.reset 0x12 [])) (fun t => t.lnk.slot.map (fun f => (f.bytes.drop 6).take 4))
      = some (some [0x12, 1, 9, 3]) := by decide +kernel

/-- Table 13-1, step 6: COPY_ACTIVE_TO_SHADOW in STANDBY is refused STATE. -/
theorem test_copy_in_standby :
    after (exec .copyActiveToShadow (asks State.reset 0x11 [])) (fun t => t.lnk.slot.map (fun f => (f.bytes.drop 6).take 4))
      = some (some [0x11, 1, 1, 0]) := by decide +kernel

/-- Table 13-1, step 12: RUN takes LINE_NOT_RUN from the set, and FEED_HOLD goes inactive. -/
theorem test_run_frees_the_feeder :
    after (exec .lineControlRun (asks (lineIn .ready) 0x17 [0])) (fun t => (t.lsv.line, t.feedHoldOutput))
      = some (.run, false) := by decide +kernel

/-- Table 13-2: the record of deposit 110, 320,000 counted against 310,000 declared. -/
theorem test_outcome_of_deposit_110 :
    (Context.outcome { deposit 110 0 with
      value := digitsOfNat 14 320000
      declaration := some { card := 1, value := digitsOfNat 14 310000, counts := [], reference := [] } })
      = (.over, digitsOfNat 14 10000) := by decide +kernel

/-- Table 13-2, step 2: the third commitment at 47 held makes 50, and the pocket is FULL. -/
theorem test_commitment_fills_pocket :
    (Pocket.commit 5 111 0
      { strapPocket with
        limit := 50, held := 47, committed := 2, bundle := some 5140,
        contributions := [⟨109, 0, 17⟩, ⟨110, 2, 30⟩] }).state = .full := by decide +kernel

/-- Table 13-4: the record of a timed-out bundle of 100 notes. -/
theorem test_record_of_bundle_5310 :
    (Pocket.bundleRecord .strapTimeout
      { strapPocket with held := 100, bundle := some 5310, contributions := [⟨130, 0, 64⟩, ⟨131, 0, 36⟩] }).pairs
      = [(130, 64), (131, 36)] := by decide +kernel

/-- R13, R14, as in Table 13-3: an object that begins less than the minimum gap behind the newest entry ties with it. -/
theorem test_tie :
    after (exec .entryEyeClearingEdge
      (blockedFrom (withQueue (at' line 1160) [seen 1]) 1000)) (fun t => t.trk.queue.map Entry.tied)
      = some [true, true] := by decide +kernel

/-- R194, Table 12-1: on the LINE page the inspection and the strapping station of none are 0xFF. -/
theorem test_no_station_on_the_line_page : (LineParameters.afterReset.bytes.drop 14).take 2 = [0xFF, 0xFF] := by
  decide +kernel

/-- Table 7-1: the loose limits of pockets 1 to 16 have the indices 1 to 16 (log entry 29). -/
theorem test_loose_limits_by_pocket :
    loadInRange [3, 0, 1, 1, 44, 8] = false ∧ loadInRange [3, 17, 1, 1, 44, 8] = false
      ∧ loadInRange [3, 16, 1, 1, 44, 8] = true
      ∧ (loadBank Bank.blank [3, 16, 1, 1, 44, 8]).loose[(15 : PocketNo)] = { capacity := 300, allowance := 8 } := by
  decide +kernel

/-- R1: at prescaler 1 the position wraps from 65535 to 0. -/
theorem test_position_wraps :
    after (exec .encoderPulse (at' line 65535)) (fun t => t.trk.position) = some 0 := by decide +kernel

/-- R116: a sum that lands on the accumulator maximum does not saturate, and the next credit does. -/
theorem test_credit_at_maximum :
    creditValue (digitsOfNat 14 99999999999998) false 1 = (maxValue, false) ∧ creditValue maxValue false 1 = (maxValue, true) := by
  decide +kernel

/-! ## The terms of the premises, decided -/

/-- Quiet, decided. -/
def decQuiet (s : State) : Decidable s.Quiet := by
  unfold State.Quiet State.PocketQuiet State.NothingWaits; infer_instance
def quietB (s : State) : Bool := @decide _ (decQuiet s)
theorem quiet_iff (s : State) : s.Quiet ↔ quietB s = true := (@decide_eq_true_iff _ (decQuiet s)).symm

/-- Due, decided. -/
def decDue (s : State) (r : Instr) (q : QueuedCommand) (rest : List QueuedCommand) : Decidable (s.Due r q rest) := by
  unfold State.Due; infer_instance
def dueB (s : State) (r : Instr) (q : QueuedCommand) (rest : List QueuedCommand) : Bool := @decide _ (decDue s r q rest)
theorem due_iff (s : State) (r : Instr) (q : QueuedCommand) (rest : List QueuedCommand) :
    s.Due r q rest ↔ dueB s r q rest = true := (@decide_eq_true_iff _ (decDue s r q rest)).symm

/-- HearsFrom, decided. -/
def decHears (s : State) (own src : Byte) (p : List Byte) : Decidable (s.HearsFrom own src p) := by
  unfold State.HearsFrom; infer_instance
def hearsB (s : State) (own src : Byte) (p : List Byte) : Bool := @decide _ (decHears s own src p)
theorem hears_iff (s : State) (own src : Byte) (p : List Byte) : s.HearsFrom own src p ↔ hearsB s own src p = true :=
  (@decide_eq_true_iff _ (decHears s own src p)).symm

/-- OrdersInPlace, decided. -/
def decOrders (s : State) : Decidable s.OrdersInPlace := by unfold State.OrdersInPlace; infer_instance
def ordersB (s : State) : Bool := @decide _ (decOrders s)
theorem orders_iff (s : State) : s.OrdersInPlace ↔ ordersB s = true := (@decide_eq_true_iff _ (decOrders s)).symm

/-- GetsEntry, decided. -/
def decGets (s : State) (lead jam : Position) : Decidable (s.GetsEntry lead jam) := by
  unfold State.GetsEntry; infer_instance
def getsB (s : State) (lead jam : Position) : Bool := @decide _ (decGets s lead jam)
theorem gets_iff (s : State) (lead jam : Position) : s.GetsEntry lead jam ↔ getsB s lead jam = true :=
  (@decide_eq_true_iff _ (decGets s lead jam)).symm

/-! ## Witnesses: the machine and its latches -/

/-- Both ways to meet the premise: power-on, and a RESET from elsewhere. -/
theorem witness_InvariantsAtReset :
    State.reset = State.reset ∧ ∃ t, exec (.reset 7 false false 0 0 0) line = .next t := ⟨rfl, _, rfl⟩

theorem witness_QuietKept :
    line.Quiet ∧ ∃ t, step (line.withPending [.encoderPulse]) = .next t := by
  refine ⟨?_, _, rfl⟩
  simp only [quiet_iff]
  decide +kernel

/-- In RUN, and in HALT with its latches set. -/
theorem witness_LatchesKept :
    line.LineHeld ∧ (line.haltCause .command).LineHeld ∧ line.StandbyUntilSwap ∧ State.reset.StandbyUntilSwap ∧ line.AttnFollows
      ∧ line.HaltLatched ∧ ∃ t, step (line.withPending [.encoderPulse]) = .next t := by
  simp only [State.LineHeld, State.StandbyUntilSwap, State.AttnFollows]
  refine ⟨by decide +kernel, by decide +kernel, by decide +kernel, by decide +kernel, by decide +kernel, ?_, _, rfl⟩
  exact ⟨rfl, rfl, fun _ => rfl, fun _ h => nomatch h⟩

theorem witness_BoundsKept :
    line.WithinCapacity ∧ line.OneActive ∧ line.GatesFollow ∧ line.PhaseBelow ∧ line.NumbersInRange ∧ line.OrdersInPlace
      ∧ ∃ t, step (line.withPending [.encoderPulse]) = .next t := by
  simp only [State.WithinCapacity, State.OneActive, State.GatesFollow, State.PhaseBelow, State.NumbersInRange, State.OrdersInPlace]
  refine ⟨by decide +kernel, by decide +kernel, by decide +kernel, by decide +kernel, by decide +kernel, by decide +kernel, _, rfl⟩

theorem witness_RaiseLatches :
    line.AttnFollows ∧ (line.raise .feedIdle).AttnFollows := by
  simp only [State.AttnFollows]
  and_intros <;> decide +kernel

/-- Each group of line states. -/
theorem witness_HaltCauseTaken :
    (lineIn .standby).lsv.line = .standby ∧ (lineIn .ready).lsv.line = .ready ∧ (lineIn .drain).lsv.line = .drain
      ∧ (line.haltCause .command).lsv.line = .haltStopping ∧ (lineIn .haltStopped).lsv.line = .haltStopped := by
  and_intros <;> decide +kernel

/-! ## Witnesses: belt and entry eye -/

/-- Prescalers 1 and 16, the phase at 0 and just below. -/
theorem witness_EncoderPulse :
    line.PhaseBelow ∧ State.PhaseBelow { line with
      trk := { line.trk with phase := 15 }, tbs := { line.tbs with params := { params with prescaler := 16 } } } := by
  simp only [State.PhaseBelow]
  and_intros <;> decide +kernel

/-- A VOID object; one of length 15, below the minimum of 16; one of 16 in STANDBY and in HALT-STOPPED. -/
theorem witness_EyeEdges :
    (voidEye line).Quiet ∧ (voidEye line).trk.eye = .void
      ∧ (blockedFrom line 985).Quiet ∧ (blockedFrom line 985).trk.eye = .blocked 985 1753
      ∧ ((1000 : Position) - 985).toNat < params.minLength
      ∧ (blockedFrom (lineIn .standby) 984).Quiet ∧ (blockedFrom (lineIn .haltStopped) 984).Quiet
      ∧ params.minLength ≤ ((1000 : Position) - 984).toNat := by
  simp only [quiet_iff]
  and_intros <;> decide +kernel

/-- Twelve entries; a jam mark just reached; an eye that is not BLOCKED. -/
theorem witness_OverflowAndJam :
    ((blockedFrom (withQueue line (List.replicate 12 (seen 1))) 984).trk.queue.length = 12 ∧ line.lsv.line = .run
      ∧ params.minLength ≤ ((1000 : Position) - 984).toNat)
      ∧ (blockedFrom line 232).trk.eye = .blocked 232 1000 ∧ ((1000 : Position) - 1000).toNat < 32768
      ∧ line.trk.eye = .clear ∧ (voidEye line).trk.eye = .void := by
  and_intros <;> decide +kernel

/-- No entry, and one at the minimum gap of 32 exactly. -/
theorem witness_EntryCreated :
    (blockedFrom line 984).Quiet ∧ (blockedFrom line 984).GetsEntry 984 1752 ∧ line.trk.queue.getLast? = none
      ∧ (blockedFrom (withQueue (at' line 1100) [seen 2]) 1012).Quiet
      ∧ (blockedFrom (withQueue (at' line 1100) [seen 2]) 1012).GetsEntry 1012 1780
      ∧ params.minGap ≤ ((1012 : Position) - (seen 2).trail).toNat := by
  simp only [quiet_iff, gets_iff]
  and_intros <;> decide +kernel

/-- One count short of the minimum gap, behind a SEEN, a TIED and a ROUTED entry. -/
theorem witness_EntryTied :
    (∀ q ∈ [seen 2, { placed 2 .routed with tied := true }, placed 2 .routed],
        (blockedFrom (withQueue (at' line 1100) [q]) 1011).Quiet
        ∧ (blockedFrom (withQueue (at' line 1100) [q]) 1011).GetsEntry 1011 1779
        ∧ (withQueue line [q]).trk.queue.getLast? = some q ∧ ((1011 : Position) - q.trail).toNat < params.minGap)
      ∧ (seen 2).state ≠ .routed ∧ (placed 2 .routed).state = .routed ∧ (placed 2 .routed).tied = false := by
  simp only [quiet_iff, gets_iff]
  and_intros <;> decide +kernel

theorem witness_EntryReplanned :
    (carrying .routed).entry 1 = some (placed 1 .routed) ∧ (placed 1 .routed).pocket = some 2
      ∧ params.geometry[pocket1] = some { g := 0, a := 0, h := 0, p := 8000, w := 100 }
      ∧ (carrying .routed).windowAhead { g := 0, a := 0, h := 0, p := 8000, w := 100 } 900 := by
  simp only [State.windowAhead]
  and_intros <;> decide +kernel

/-- Pocket 1 with one place, UNACCOUNTED with room, and at its limit. -/
theorem witness_RejectAlwaysCommitted :
    (∀ p ∈ [{ loosePocket with held := 199 }, { loosePocket with state := .unaccounted }],
        p.state ≠ .awaitingRemoval ∧ p.committed + p.held < p.limit ∧ p.contributions.length < 8)
      ∧ { loosePocket with held := 200 }.limit ≤ { loosePocket with held := 200 }.committed
        + { loosePocket with held := 200 }.held := by
  and_intros <;> decide +kernel

/-! ## Witnesses: identification and routing -/

/-- At the decision point itself, with an ACTIVE deposit and without. -/
theorem witness_DecisionPointReached :
    (∀ s ∈ [withQueue (at' line 1300) [seen 1], withContexts (withQueue (at' line 1300) [seen 1]) [deposit 1 0]],
        s.entry 1 = some (seen 1) ∧ (seen 1).state = .seen ∧ (s.trk.position - (seen 1).decision).toNat < 32768
        ∧ s.olderSeen 1 = [] ∧ s.tbs.params.geometry[pocket1] = some { g := 0, a := 0, h := 0, p := 8000, w := 100 }
        ∧ s.windowAhead { g := 0, a := 0, h := 0, p := 8000, w := 100 } 900)
      ∧ (withQueue line [seen 1]).activeContext = none
      ∧ (withContexts line [deposit 1 0]).activeContext = some (deposit 1 0) := by
  simp only [State.windowAhead]
  and_intros <;> decide +kernel

/-- A note frame with this edge position. -/
def frameAt (edge : Position) : RawNote :=
  { edge := edge, kind := 0, fault := false, denomination := 0, series := 0, orientation := 0, verdict := 0, fitness := 0,
    card := [0, 0, 0, 0], serial := [] }

/-- With a swap pending. -/
def swapping (s : State) : State := { s with tbs := { s.tbs with swapPending := true } }

/-- With this note frame in the intake FIFO. -/
def withFrame (s : State) (r : RawNote) : State := { s with idu := { fifo := [r], overrun := false } }

/-- A frame one count outside the tolerance of 8; one at its edge for the second of two entries, with an older SEEN entry; a note and a card for the only entry, with no swap pending and with one. -/
theorem witness_FrameTaken :
    (withFrame (withQueue line [seen 1]) (frameAt 1069)).Quiet
      ∧ (∀ x ∈ [seen 1], ¬ (x.state = .seen ∧ separation 1069 x.prediction ≤ params.tolerance))
      ∧ ([seen 1] ++ [{ seen 2 with prediction := 1160 }]).map Entry.seq = [1, 2] ∧ (seen 2).state = .seen
      ∧ separation 1168 1160 ≤ params.tolerance
      ∧ (∀ x ∈ [seen 1], ¬ (x.state = .seen ∧ separation 1168 x.prediction ≤ params.tolerance))
      ∧ separation 1068 (seen 1).prediction ≤ params.tolerance ∧ (withQueue line [seen 1]).trk.queue = [] ++ seen 1 :: []
      ∧ (∀ g ∈ [(0, 8000, 100), (900, 950, 50), (1000, 1050, 50)],
          32768 ≤ ((1000 : Position) - (900 + BitVec.ofNat 16 (g.2.1 + g.2.2) + 1)).toNat)
      ∧ (∀ k : PocketNo, 3 ≤ k.val → params.geometry[k] = none)
      ∧ (interpretNote (frameAt 1068)).kind ≠ .separator ∧ (interpretNote { frameAt 1068 with kind := 1 }).kind = .separator
      ∧ params.geometry[pocket1] = some { g := 0, a := 0, h := 0, p := 8000, w := 100 }
      ∧ line.tbs.swapPending = false ∧ (swapping line).tbs.swapPending = true := by
  simp only [quiet_iff]
  and_intros <;> decide +kernel

/-- Lengths 0 and 12. -/
theorem witness_WatchEntryMatches :
    (∀ n ∈ [0, 12], (BitVec.ofNat 8 n).toNat ≤ 12) ∧ (List.replicate 12 (0x41 : Byte)).length = 12
      ∧ WatchEntry.isMatch note { length := 2, pattern := [0x41, 0x42] ++ List.replicate 10 0, wildcards := 0,
                                  denomination := 255, action := 0 } = true := by
  and_intros <;> decide +kernel

/-- The line with an entry of deposit 1 just resolved to the note. -/
def resolved : State :=
  withContexts (withQueue line [{ seen 1 with
    resolution := some (.frame note), deposit := some 1, generation := some 1, denomination := some 0 }]) [deposit 1 1]

/-- The class's only pocket is eligible, with one place left. -/
theorem witness_NoteRouted :
    (∀ j : Fin 32, bank.watch[j].isMatch note = false) ∧ bank.denominations[(0 : DenomNo)].enabled = true
      ∧ resolved.lsv.line.isHalt = false ∧ (resolved.entry 1).map Entry.resolution = some (some (.frame note))
      ∧ (resolved.entry 1).map Entry.deposit = some (some 1)
      ∧ bank.rules.toList = [] ++ bank.rules[(0 : Fin 48)] :: bank.rules.toList.drop 1
      ∧ bank.rules[(0 : Fin 48)].Fits 0 note
      ∧ bank.rules[(0 : Fin 48)].result = .cls 0 ∧ bank.classes[(0 : ClassNo)].pockets = [] ++ 2 :: []
      ∧ (withPocket resolved 2 { strapPocket with held := 2 }).pocket 2 = { strapPocket with held := 2 }
      ∧ Pocket.TakesForClass 1 { strapPocket with held := 2 } ∧ (2 : PocketNo) ≠ pocket1
      ∧ params.geometry[(2 : PocketNo)] = some { g := 1000, a := 20, h := 10, p := 1050, w := 50 }
      ∧ resolved.marksAhead { g := 1000, a := 20, h := 10, p := 1050, w := 50 } 900 := by
  simp only [Pocket.TakesForClass, Pocket.Takes, Rule.Fits, State.marksAhead, State.windowAhead]
  and_intros <;> decide +kernel

/-- The line with an entry just resolved to this note, of deposit 1 or an orphan. -/
def resolvedTo (n : NoteContents) (d : Option Nat) (tied long : Bool) : State :=
  withContexts (withQueue line [{ seen 1 with
    resolution := some (.frame n), deposit := d, generation := some 1, denomination := n.denomination, tied := tied,
    long := long }]) [deposit 1 1]

/-- A watch entry for the serial AB with this action. -/
def watchAB (action : Byte) : WatchEntry :=
  { length := 2, pattern := [0x41, 0x42] ++ List.replicate 10 0, wildcards := 0, denomination := 255, action := action }

/-- The line's bank with that watch entry at index 31. -/
def watching (action : Byte) (s : State) : State :=
  { s with tbs := { s.tbs with active := { bank with watch := bank.watch.set 31 (watchAB action) } } }

/-- The line's bank with this result of its first rule. -/
def ruling (r : RuleResult) (s : State) : State :=
  { s with tbs := { s.tbs with active := { bank with rules := bank.rules.set 0 { bank.rules[(0 : Fin 48)] with result := r } } } }

/-- One entry for each line of Table 3-1: a card, TIED, LONG, DOUBLE, FOREIGN, a fault, a SUSPECT; an orphan, an unverified note, one of no denomination and of a disabled one; a note of no rule. -/
theorem witness_NoteRouted_outcomes :
    (∀ n ∈ [note, { note with kind := .separator }, { note with kind := .double }, { note with kind := .foreign },
            { note with fault := true }, { note with verdict := .suspect }, { note with verdict := .unverified },
            { note with denomination := none }, { note with denomination := some 15 }, { note with serial := [] }],
        ((resolvedTo n (some 1) false false).entry 1).map Entry.resolution = some (some (.frame n)))
      ∧ (∀ d ∈ [(none : Option Nat), some 1], ∀ tied ∈ [true, false], ∀ long ∈ [true, false],
        ((resolvedTo note d tied long).entry 1).map (fun e => (e.deposit, e.tied, e.long, e.lead)) = some (d, tied, long, 900))
      ∧ line.windowAhead { g := 0, a := 0, h := 0, p := 8000, w := 100 } 900
      ∧ params.geometry[pocket1] = some { g := 0, a := 0, h := 0, p := 8000, w := 100 }
      ∧ (line.pocket pocket2).Takes 1 ∧ ¬ Pocket.Takes 1 { loosePocket with state := .inhibited }
      ∧ ¬ Pocket.Takes 1 { loosePocket with held := 200 }
      ∧ params.geometry[pocket2] = some { g := 900, a := 20, h := 10, p := 950, w := 50 }
      ∧ line.marksAhead { g := 900, a := 20, h := 10, p := 950, w := 50 } 900
      ∧ line.lsv.line.isHalt = false ∧ (lineIn .haltStopping).lsv.line.isHalt = true
      ∧ bank.denominations[(15 : DenomNo)].enabled = false := by
  simp only [Pocket.Takes, State.marksAhead, State.windowAhead]
  and_intros <;> decide +kernel

/-- No match, a match with action HOLD and one with action FLAG, at the last index; a rule of each result; a class whose only pocket is not eligible. -/
theorem witness_NoteRouted_watch :
    (∀ j : Fin 32, line.tbs.active.watch[j].isMatch note = false)
      ∧ (∀ a ∈ [(0 : Byte), 1], (watching a line).tbs.active.watch[(31 : Fin 32)].isMatch note = true
        ∧ (watching a line).tbs.active.watch[(31 : Fin 32)].action = a
        ∧ ∀ j : Fin 32, j < 31 → (watching a line).tbs.active.watch[j].isMatch note = false)
      ∧ (∀ r ∈ [RuleResult.cls 0, .hold, .reject], (ruling r line).tbs.active.rules[(0 : Fin 48)].Fits 0 note
        ∧ (ruling r line).tbs.active.rules[(0 : Fin 48)].result = r)
      ∧ (∀ x ∈ bank.rules.toList, ¬ x.Fits 1 note)
      ∧ (∀ k ∈ bank.classes[(0 : ClassNo)].pockets, k = 2) ∧ ¬ Pocket.TakesForClass 1 { strapPocket with state := .full }
      ∧ ¬ Pocket.TakesForClass 1 { strapPocket with
          assignment := some { cls := some 0, kind := .strapped 3, pure := true },
          contributions := [{ deposit := 2, committed := 0, delivered := 1 }] } := by
  simp only [Pocket.TakesForClass, Pocket.Takes, Rule.Fits]
  and_intros <;> decide +kernel

/-- What the watch list leaves exists for every state, entry and note. -/
theorem witness_WatchLeaves (s : State) (e : Entry) (n : NoteContents) : ∃ u, s.WatchLeaves e n u := by
  by_cases h : ∃ i : Fin 32, s.tbs.active.watch[i].isMatch n = true
  · obtain ⟨i, hi, least⟩ := WellFounded.has_min (wellFounded_lt (α := Fin 32))
      (fun i => s.tbs.active.watch[i].isMatch n = true) h
    refine ⟨State.raise .watchHit (State.bump .watchHits { s with rte := {
      hits := Vector.ofFn (fun j : Fin 32 =>
        if s.tbs.active.watch[j].isMatch n then min (s.rte.hits[j] + 1) 255 else s.rte.hits[j])
      lastHit := some { index := i, serial := n.serial, deposit := e.deposit.getD 0, seq := e.seq } } }), fun no => (Bool.false_ne_true ((no i).symm.trans hi)).elim, fun j hj below => ?_⟩
    obtain rfl : j = i := by
      rcases lt_trichotomy j i with lt | rfl | gt
      · exact absurd lt (least j hj)
      · rfl
      · exact (Bool.false_ne_true ((below i gt).symm.trans hi)).elim
    rfl
  · refine ⟨s, fun _ => rfl, fun i hi => absurd ⟨i, hi⟩ h⟩

/-! ## Witnesses: gates and delivery -/

/-- Each mark at the position that reaches it. -/
theorem witness_GateMarks :
    (at' (carrying .routed) 1880).entry 1 = some (placed 1 .routed) ∧ (placed 1 .routed).pocket = some 2
      ∧ (placed 1 .routed).gateOn = some 1880 ∧ ((1880 : Position) - 1880).toNat < 32768
      ∧ (at' (carrying .deflecting) 1990).entry 1 = some (placed 1 .deflecting)
      ∧ (placed 1 .deflecting).gateOff = some 1990 ∧ (placed 1 .deflecting).state = .deflecting
      ∧ (placed 1 .deflecting).state ≠ .routed := by
  and_intros <;> decide +kernel

/-- The same note with its deposit DRAINING. -/
def draining (st : EntryState) : State := withContexts (carrying st) [{ deposit 1 1 with state := .draining }]

/-- One position past the window of an entry of an ACTIVE deposit, and of a DRAINING one with nothing else in transit. -/
theorem witness_WindowEnds :
    (at' (carrying .deflecting) 2001).OrdersInPlace ∧ (at' (carrying .deflecting) 2001).entry 1 = some (placed 1 .deflecting)
      ∧ (placed 1 .deflecting).windowEnd = some 2000 ∧ (placed 1 .deflecting).arrivalSeen = false
      ∧ ((2001 : Position) - (2000 + 1)).toNat < 32768 ∧ (placed 1 .deflecting).deposit = some 1
      ∧ (carrying .deflecting).countingContext 1 = some (deposit 1 1) ∧ (deposit 1 1).state = .active
      ∧ (draining .deflecting).OrdersInPlace ∧ (draining .deflecting).entry 1 = some (placed 1 .deflecting)
      ∧ (draining .deflecting).countingContext 1 = some { deposit 1 1 with state := .draining } ∧ (deposit 1 1).inTransit = 1
      ∧ ((draining .deflecting).dpu.contexts.map Context.seq).Nodup ∧ line.lsv.line ≠ .standby := by
  simp only [orders_iff]
  and_intros <;> decide +kernel

theorem witness_IdleMarkReached :
    ∀ s ∈ [{ line with lsv := { line.lsv with idleMark := some 1000 } }], s.lsv.idleMark = some 1000 ∧ s.lsv.idleReached = false
      ∧ (s.trk.position - 1000).toNat < 32768 := by
  decide +kernel

/-- At both ends of the window, in DEFLECTING and AWAITING-ARRIVAL; a class, a hold and a counted reject. -/
theorem witness_DeliveryCounts :
    (at' (carrying .deflecting) 1900).arrivalMatch 2 = some (placed 1 .deflecting)
      ∧ (at' (carrying .awaitingArrival) 2000).arrivalMatch 2 = some (placed 1 .awaitingArrival)
      ∧ (withQueue (at' line 1950) [{ placed 1 .awaitingArrival with destination := some .hold }]).arrivalMatch 2
        = some { placed 1 .awaitingArrival with destination := some .hold }
      ∧ (carrying .deflecting).countingContext 1 = some (deposit 1 1) ∧ (deposit 1 1).state ≠ .draining
      ∧ (placed 1 .deflecting).destination = some (.cls 0) ∧ (placed 1 .deflecting).denomination = some 0
      ∧ (placed 1 .deflecting).faceValue = some 500 ∧ RejectReason.countIndex .tied = some 0 := by
  refine ⟨List.find?_cons_of_pos (by decide +kernel), List.find?_cons_of_pos (by decide +kernel),
    List.find?_cons_of_pos (by decide +kernel), rfl, by decide +kernel, rfl, rfl, rfl, rfl⟩

/-- A strapped pocket OPEN, and FULL before its last note; a loose one FULL with content seen; one with a commitment more. -/
theorem witness_DeliveryCounts_pocket :
    (∀ p ∈ [strapCommitted, { strapCommitted with state := .full, held := 2 },
              { strapCommitted with assignment := loosePocket.assignment, state := .full, limit := 1, emptyEye := true },
              { strapCommitted with committed := 2, assignment := none }],
        (withPocket (at' (carrying .deflecting) 1900) 2 p).Quiet
        ∧ (withPocket (at' (carrying .deflecting) 1900) 2 p).pocket 2 = p ∧ p.state ≠ .disabled ∧ p.state ≠ .unaccounted
        ∧ (p.emptyEye = true ∨ 2 ≤ p.committed ∨ (p.isStrapped = true ∧ 2 ≤ (2 : PocketNo).val)))
      ∧ strapCommitted.committed = 1 ∧ 2 + 1 = strapCommitted.limit := by
  simp only [quiet_iff]
  and_intros <;> decide +kernel

/-- A delivery of each kind has a context that counts it; the deposit ACTIVE, and DRAINING with its last note. -/
theorem witness_DeliveryCounts_deposit :
    (∀ x ∈ [placed 1 .deflecting, { placed 1 .deflecting with destination := some .hold },
            { placed 1 .deflecting with destination := some (.reject .tied) }], ∃ c, Context.Delivered x (deposit 1 1) c)
      ∧ (carrying .deflecting).countingContext 1 = some (deposit 1 1)
      ∧ (draining .deflecting).countingContext 1 = some { deposit 1 1 with state := .draining } ∧ (deposit 1 1).inTransit ≤ 1
      ∧ ((draining .deflecting).dpu.contexts.map Context.seq).Nodup := by
  refine ⟨?_, by decide +kernel, by decide +kernel, by decide +kernel, by decide +kernel⟩
  simp only [List.mem_cons, List.not_mem_nil, or_false]
  rintro x (rfl | rfl | rfl)
  · exact ⟨_, Or.inl ⟨0, 0, 500, rfl, rfl, rfl, rfl⟩⟩
  · exact ⟨_, Or.inr (Or.inl ⟨rfl, rfl⟩)⟩
  · exact ⟨_, Or.inr (Or.inr ⟨.tied, 0, rfl, rfl, rfl⟩)⟩

/-- An entry still ROUTED, and a DISABLED pocket. -/
theorem witness_StrayArrival :
    (at' (carrying .routed) 1950).OrdersInPlace ∧ (at' (carrying .routed) 1950).arrivalMatch 2 = none
      ∧ (at' (carrying .routed) 1950).Quiet ∧ line.OrdersInPlace ∧ line.Quiet
      ∧ line.arrivalMatch 4 = none ∧ (line.pocket 4).state = .disabled := by
  simp only [orders_iff, quiet_iff]
  and_intros <;> decide +kernel

/-! ## Witnesses: pocket eyes and straps -/

/-- A DISABLED pocket; a strapped one with a note; loose ones with a note, with and without a commitment, INHIBITED, and in AWAITING_REMOVAL with the stack eye at either level and the changeover marker set. -/
theorem witness_EmptyEyeEdge :
    (∀ p ∈ [{ strapPocket with held := 1 }, { loosePocket with held := 1 }, { loosePocket with held := 1, committed := 1 },
              { loosePocket with state := .inhibited, committed := 1 }, { loosePocket with state := .inhibited },
              { loosePocket with state := .awaitingRemoval, held := 9, emptyEye := true },
              { loosePocket with state := .awaitingRemoval, held := 9, emptyEye := true, stackEye := true },
              { loosePocket with state := .awaitingRemoval, held := 9, emptyEye := true, changeover := true }],
        (withPocket line 2 p).OrdersInPlace ∧ (withPocket line 2 p).pocket 2 = p ∧ p.record = none)
      ∧ line.OrdersInPlace ∧ (line.pocket 4).state = .disabled
      ∧ { strapPocket with held := 1 }.isStrapped = true ∧ { loosePocket with held := 1 }.isLoose = true
      ∧ loosePocket.assignment = some { cls := none, kind := .loose 200 8, pure := false } ∧ 0 < 200 ∧ 0 < min 200 8 := by
  simp only [orders_iff]
  and_intros <;> decide +kernel

/-- A strapped and a loose pocket with content, below the limit and at it. -/
theorem witness_StackEyeEdge :
    (∀ p ∈ [{ strapPocket with emptyEye := true, held := 1 }, { loosePocket with emptyEye := true, held := 1 },
              { loosePocket with emptyEye := true, state := .full, held := 200 }],
        (withPocket line 2 p).OrdersInPlace ∧ (withPocket line 2 p).pocket 2 = p ∧ p.emptyEye = true)
      ∧ strapPocket.isLoose = false
      ∧ loosePocket.assignment = some { cls := none, kind := .loose 200 8, pure := false } := by
  simp only [orders_iff]
  and_intros <;> decide +kernel

/-- Pocket 3 with its bundle at the strapping unit. -/
def strapping : Pocket :=
  { strapPocket with
    state := .strapping, held := 3, bundle := some 5, strapTimer := some 2000,
    contributions := [{ deposit := 1, committed := 0, delivered := 3 }] }

/-- The timer running; a report that matches, one that does not, and ones for pockets 0 and 17; the pocket STRAPPING and not. -/
theorem witness_StrapEnds :
    strapping.state = .strapping ∧ strapping.strapTimer ≠ none ∧ (line.pocket 2).state ≠ .strapping
      ∧ (withPocket line 2 strapping).OrdersInPlace ∧ (withPocket line 2 strapping).HearsFrom 7 2 [3, 0, 0, 0, 5, 0]
      ∧ (withPocket line 2 strapping).HearsFrom 7 2 [3, 0, 0, 0, 5, 1] ∧ line.HearsFrom 7 2 [3, 0, 0, 0, 5, 0]
      ∧ line.HearsFrom 7 2 [0, 0, 0, 0, 5, 0] ∧ line.HearsFrom 7 2 [17, 0, 0, 0, 5, 0] ∧ (0 : Byte).toNat = 0 ∧ 16 < (17 : Byte).toNat
      ∧ (3 : Byte).toNat = (2 : PocketNo).val + 1 ∧ params.strappingStation = some (2 : Byte).toNat
      ∧ strapping.bundle = some ((0 : Byte).toNat * 16777216 + (0 : Byte).toNat * 65536 + (0 : Byte).toNat * 256 + (5 : Byte).toNat)
      ∧ strapping.emptyEye = false ∧ strapping.changeover = false ∧ strapping.committed < 3 := by
  simp only [orders_iff, hears_iff]
  and_intros <;> decide +kernel

/-- The stop scheduled in HALT-STOPPING; falling edges with and without entries, and in the other line states. -/
theorem witness_RunningAndStop :
    (∀ s ∈ [(line.setRunning false).haltCause .command],
        s.lsv.stopScheduled = true ∧ s.lsv.line = .haltStopping ∧ s.lsv.running = false)
      ∧ (∀ s ∈ [{ line with lsv := { line.lsv with stopScheduled := true } }],
        s.Quiet ∧ s.lsv.stopScheduled = true ∧ s.lsv.line ≠ .haltStopping)
      ∧ line.lsv.line = .run ∧ (carrying .routed).trk.queue ≠ [] ∧ line.trk.queue = []
      ∧ (∀ l ∈ [LineState.run, .drain, .standby, .ready, .haltStopped], (lineIn l).Quiet) := by
  simp only [quiet_iff]
  and_intros <;> decide +kernel

/-- A deposit ACTIVE and DRAINING with its only note on the belt; an orphan and a SEEN entry. -/
theorem witness_RunningAndStop_deposits :
    (∀ s ∈ [carrying .routed, draining .deflecting], (s.notesOf 1).length = 1 ∧ (s.dpu.contexts.map Context.seq).Nodup
        ∧ s.countingContext 1 = s.dpu.contexts.head?)
      ∧ (deposit 1 1).state = .active ∧ (deposit 1 1).inTransit = 1 ∧ (carrying .routed).orphansInTransit = []
      ∧ (withQueue line [{ placed 1 .routed with deposit := none }, seen 2]).orphansInTransit.length = 1
      ∧ (seen 2).resolution.isNone = true := by
  and_intros <;> decide +kernel

/-! ## Witnesses: the line link -/

/-- The shortest and the longest payload. -/
theorem witness_FrameDelivered :
    line.lnk.receiver = .hunting ∧ ([] : List Byte).length ≤ 244 ∧ (List.replicate 244 (0xC3 : Byte)).length ≤ 244 := by
  and_intros <;> decide +kernel

/-- Bytes without SYNC; LENGTH 4 and 250; LENGTH 5 and 249 with a wrong check. -/
theorem witness_DamagedFrame :
    line.lnk.receiver = .hunting ∧ (∀ b ∈ [(0xC2 : Byte), 0xC4], b ≠ 0xC3) ∧ (4 : Byte).toNat < 5 ∧ 249 < (250 : Byte).toNat
      ∧ (List.replicate 4 (0 : Byte)).length + 1 = (5 : Byte).toNat
      ∧ (List.replicate 248 (0 : Byte)).length + 1 = (249 : Byte).toNat
      ∧ [0, 0] ≠ bytes16 (crc (List.replicate 4 (0 : Byte)))
      ∧ ∃ hi : Byte, [hi, 0] ≠ bytes16 (crc (List.replicate 248 (0 : Byte))) := by
  refine ⟨by decide +kernel, by decide, by decide, by decide, rfl,
    (congrArg (· + 1) List.length_replicate).trans (by decide), by decide +kernel, ?_⟩
  by_contra h
  push Not at h
  exact absurd ((h 0).trans (h 1).symm) (by decide)

/-- With this many commands queued. -/
def withCommands (s : State) (n : Nat) : State := { s with cmp := { s.cmp with commands := List.replicate n (asked 0x12 []) } }

/-- With this many frames in the forward queue behind a frame that is being sent. -/
def withForward (s : State) (n : Nat) : State :=
  sending { s with lnk := { s.lnk with forward := List.replicate n [0xC3] } }

/-- A kind of the part's own; a command with three and with four queued. -/
theorem witness_CommandFrames :
    line.HearsFrom 7 0 [] ∧ (0x44 : Byte) ∈ [0x40, 0x41, 0x42, 0x43, (0x44 : Byte)]
      ∧ (0x45 : Byte) ∉ [0x40, 0x41, 0x42, 0x43, (0x44 : Byte)] ∧ (0x45 : Byte) ≠ 0x01 ∧ (0x45 : Byte) ≠ 0x02
      ∧ (withCommands line 3).Quiet ∧ (withCommands line 3).HearsFrom 7 0 [] ∧ (withCommands line 3).cmp.commands.length < 4
      ∧ (withCommands line 4).HearsFrom 7 0 [] ∧ 4 ≤ (withCommands line 4).cmp.commands.length := by
  simp only [quiet_iff, hears_iff]
  and_intros <;> decide +kernel

/-- An idle link; seven and eight frames waiting; broadcasts of each sort. -/
theorem witness_ForwardedFrames :
    line.Quiet ∧ line.lnk.receiver = .hunting ∧ line.lnk.station ≠ some (8 : Byte).toNat ∧ (8 : Byte) ≠ 255 ∧ line.lnk.slot = none
      ∧ (∀ n ∈ [7, 8], (withForward line n).Quiet ∧ (withForward line n).lnk.slot ≠ none
        ∧ (withForward line n).lnk.forward.length = n)
      ∧ (withForward line 7).cmp.commands.length < 4 ∧ (0x10 : Byte) ≠ 0x1A ∧ (0x10 : Byte) ≠ 0x17 := by
  simp only [quiet_iff]
  and_intros <;> decide +kernel

/-- A NOTE payload with this serial length and this many serial bytes. -/
def notePayload (stated n : Nat) : List Byte :=
  [0, 0, 0, 0, 0, 0, 0, 0, 0, 0, 0, 0, 0, BitVec.ofNat 8 stated] ++ List.replicate n 0x41

/-- With this many note frames in the intake FIFO. -/
def withNotes (s : State) (n : Nat) (overrun : Bool) : State :=
  { s with idu := { fifo := List.replicate n (frameAt 0), overrun := overrun } }

/-- Another source; a serial of 13; the latch set; seven and eight frames in the FIFO; serials of 0 and 12. -/
theorem witness_NoteFrames :
    (∀ s ∈ [line, withNotes line 7 false, withNotes line 8 false, withNotes line 7 true],
        s.Quiet ∧ s.HearsFrom 7 1 (notePayload 12 12) ∧ s.HearsFrom 7 1 (notePayload 13 13) ∧ s.HearsFrom 7 2 (notePayload 0 0))
      ∧ params.inspectionStation = some (1 : Byte).toNat ∧ params.inspectionStation ≠ some (2 : Byte).toNat
      ∧ (∀ n ∈ [0, 12], 14 ≤ (notePayload n n).length ∧ ((notePayload n n).getD 13 0).toNat ≤ 12
        ∧ (notePayload n n).length = 14 + ((notePayload n n).getD 13 0).toNat)
      ∧ ¬ ((notePayload 13 13).getD 13 0).toNat ≤ 12 := by
  simp only [quiet_iff, hears_iff]
  and_intros <;> decide +kernel

/-- A line sending a frame, with pocket 3 at the record or the order given. -/
def sendingWith (p : Pocket) : State := sending (withPocket line 2 p)

/-- A deposit that waits for its record. -/
def ended : Context := { deposit 1 0 with state := .recordPending, endKind := some .endCard, closeGen := some 1 }

/-- A strap order. -/
def order : StrapOrder := { bundle := some 5, cls := some 0, count := 3, short := false }

/-- A bundle record. -/
def record : BundleRecord := Pocket.bundleRecord .strapped strapping

/-- One frame waiting at each source in turn, and none. -/
theorem witness_TransmissionEnds :
    (sending line).Quiet ∧ (sending line).lnk.slot = some { source := .forward, bytes := [0] }
      ∧ (∀ s ∈ [{ sending line with cmp := { line.cmp with replies := [replyTo (asked 0x12 []) Answer.done] } }], s.Quiet)
      ∧ (∀ s ∈ [State.hold .recordBacklog (withContexts { sending line with dpu := { line.dpu with completion := [1] } } [ended])],
        s.Quiet ∧ s.cmp.replies = [] ∧ s.nextRecord = some ended)
      ∧ (∀ s ∈ [State.hold .recordBacklog (sendingWith { strapPocket with state := .complete, held := 3, strapOrder := some order })],
        s.Quiet ∧ s.nextRecord = none ∧ s.firstOrder = some (2, order))
      ∧ (∀ s ∈ [State.hold .recordBacklog (sendingWith { strapPocket with record := some record })],
        s.Quiet ∧ s.nextRecord = none ∧ s.firstOrder = none ∧ s.firstRecord = some (2, record))
      ∧ (∀ s ∈ [{ sending line with evu := { line.evu with pending := 1, enable := 1, attn := true, owed := true } }],
        s.Quiet ∧ s.nextRecord = none ∧ s.firstOrder = none ∧ s.firstRecord = none ∧ s.evu.owed = true)
      ∧ (withForward line 1).Quiet ∧ (withForward line 1).lnk.forward = [0xC3] :: [] := by
  simp only [quiet_iff]
  and_intros <;> decide +kernel

/-! ## Witnesses: management commands -/

/-- A command not at the head, one that is due, an unknown kind below and above the range, a bad code and a bad length. -/
theorem witness_CommandAnswered :
    rowOf (asked 0x11 []) = .copyActiveToShadow ∧ line.cmp.commands = []
      ∧ (asks line 0x11 []).Due .copyActiveToShadow (asked 0x11 []) []
      ∧ (asks line 0x0F []).Quiet ∧ (asks line 0x0F []).Due .unknownKind (asked 0x0F []) []
      ∧ (asks line 0x20 []).Quiet ∧ (asks line 0x20 []).Due .unknownKind (asked 0x20 []) []
      ∧ (asks line 0x17 [5]).Quiet ∧ (asks line 0x17 [5]).Due .parameterCodeRefusal (asked 0x17 [5]) []
      ∧ (asks line 0x1C [0]).Due .parameterCodeRefusal (asked 0x1C [0]) []
      ∧ (asked 0x17 [5]).payload.length = 1 ∧ (asked 0x1C [0]).payload.length ≠ 3 := by
  simp only [quiet_iff, due_iff]
  and_intros <;> decide +kernel

/-- LOAD_TABLE of loose limits: entries from the first index on. -/
def loadLoose (first count : Byte) (entries : Nat) : List Byte := 3 :: first :: count :: List.replicate (3 * entries) 1


/-- Two bytes; an entry too few; a swap pending; table 5; no entries; loose limits from 0, to 17 and to 16; denominations to 16 and to 15. -/
theorem witness_LoadTable :
    (∀ s ∈ [line, swapping line], ∀ p ∈ [[3, 0], loadLoose 1 2 1, [5, 0, 1], loadLoose 1 0 0, loadLoose 0 1 1, loadLoose 16 2 2,
              loadLoose 15 2 2, [0, 16, 1] ++ List.replicate 5 1, [0, 15, 1] ++ List.replicate 5 1],
        (asks s 0x10 p).Quiet ∧ (asks s 0x10 p).Due .loadTable (asked 0x10 p) [])
      ∧ entrySize 3 = some 3 ∧ entrySize 0 = some 5 ∧ entrySize 5 = none ∧ tableSize 3 = 16 ∧ tableSize 0 = 16
      ∧ (swapping line).tbs.swapPending = true
      ∧ ((loadLoose 1 2 1).drop 3).length ≠ 2 * 3 ∧ ((loadLoose 15 2 2).drop 3).length = 2 * 3
      ∧ (0 : Byte).toNat < 1 ∧ 1 + 16 ≤ (16 : Byte).toNat + (2 : Byte).toNat - 1
      ∧ 1 ≤ (15 : Byte).toNat ∧ (15 : Byte).toNat + (2 : Byte).toNat ≤ 1 + 16
      ∧ 0 + 16 ≤ (16 : Byte).toNat + (1 : Byte).toNat - 1 ∧ (15 : Byte).toNat + (1 : Byte).toNat ≤ 0 + 16 := by
  simp only [quiet_iff, due_iff]
  and_intros <;> decide +kernel

/-- The loose limits of pockets 15 and 16. -/
theorem witness_LoadedEntries :
    loadLoose 15 2 2 = 3 :: 15 :: 2 :: List.replicate 6 1 ∧ 1 ≤ (15 : Byte).toNat := by
  and_intros <;> decide +kernel

/-- With and without a swap pending, in STANDBY and in RUN. -/
theorem witness_CopyAndCancel :
    ∀ s ∈ [line, swapping line, lineIn .standby], (asks s 0x11 []).Quiet
      ∧ (asks s 0x11 []).Due .copyActiveToShadow (asked 0x11 []) [] ∧ (asks s 0x13 []).Due .cancelCommit (asked 0x13 []) [] := by
  simp only [quiet_iff, due_iff]
  decide +kernel

/-- A swap pending; a blank shadow; a good one with a deposit ACTIVE, and with the line empty. -/
theorem witness_CommitTables :
    (∀ s ∈ [line, swapping line, withContexts line [deposit 1 0], lineIn .standby], (asks s 0x12 []).Quiet
        ∧ (asks s 0x12 []).Due .commitTables (asked 0x12 []) [])
      ∧ Bank.blank.failedCheck LineParameters.afterReset = some 3 ∧ bank.failedCheck params = none
      ∧ (withContexts line [deposit 1 0]).activeContext ≠ none ∧ line.activeContext = none ∧ line.trk.queue = [] := by
  simp only [quiet_iff, due_iff]
  and_intros <;> decide +kernel

/-- An assignment that stays and one that changes, in each group of states of Table 5-4, empty, with a note and with a commitment; pockets 1 and 2. -/
theorem witness_CommitTables_changeover :
    bank.assignmentFor 2 = strapPocket.assignment ∧ bank.assignmentFor 2 ≠ loosePocket.assignment
      ∧ Bank.blank.assignmentFor 2 = none ∧ (2 : PocketNo) ∈ bank.classes[(0 : ClassNo)].pockets
      ∧ (∀ d : ClassNo, (2 : PocketNo) ∈ bank.classes[d].pockets → d = 0) ∧ (∀ c : ClassNo, (3 : PocketNo) ∉ bank.classes[c].pockets)
      ∧ loosePocket.committed = 0 ∧ loosePocket.held = 0 ∧ loosePocket.state = .open ∧ Pocket.afterReset.state = .disabled
      ∧ (loosePocket.changeBank bank 0).state = .open ∧ (line.activeContext = none ∧ line.trk.queue = [])
      ∧ ((line.pocket 2).changeBank bank 2).state ≠ .complete ∧ ((line.pocket 2).changeBank bank 2).state ≠ .awaitingRemoval := by
  and_intros <;> decide +kernel

/-- A SET_LINE_PARAMETERS payload: distances as after reset, a station for strapping, a bundle number base, and the
geometry of pocket 1. -/
def parameterPayload (strap base : Byte) (dDec : Byte) : List Byte :=
  [1, 0, 160, 8, dDec, 144, 0, 32, 16, 192, 7, 208, 0, 0, 1, strap, 0, 0, 0, base]
    ++ [1, 0, 0, 0, 0, 0, 0, 31, 64, 0, 100] ++ List.replicate 165 0

/-- Whatever the checks say, there is a predicate that says it of their numbers. -/
theorem witness_ChecksPassed (a b c d e f g h : Prop) :
    ∃ P : Nat → Prop, (P 1 ↔ a) ∧ (P 2 ↔ b) ∧ (P 3 ↔ c) ∧ (P 4 ↔ d) ∧ (P 5 ↔ e) ∧ (P 6 ↔ f) ∧ (P 7 ↔ g) ∧ (P 8 ↔ h) :=
  ⟨fun n => match n with | 1 => a | 2 => b | 3 => c | 4 => d | 5 => e | 6 => f | 7 => g | _ => h,
    Iff.rfl, Iff.rfl, Iff.rfl, Iff.rfl, Iff.rfl, Iff.rfl, Iff.rfl, Iff.rfl⟩

/-- 195 bytes; RUN; a decision distance below the inspection distance; a set that passes in STANDBY, with and without a strapping station and a base. -/
theorem witness_SetLineParameters :
    (∀ s ∈ [line, State.reset], ∀ p ∈ [(parameterPayload 2 1 1).dropLast, parameterPayload 2 1 0, parameterPayload 2 1 1,
                                        parameterPayload 0 0 1],
        (asks s 0x14 p).Quiet ∧ (asks s 0x14 p).Due .setLineParameters (asked 0x14 p) [])
      ∧ (parameterPayload 2 1 1).length = 196 ∧ line.lsv.line = .run ∧ State.reset.lsv.line = .standby
      ∧ State.reset.tbs.failedParameters (parametersOf (parameterPayload 2 1 0)) = some 1
      ∧ State.reset.tbs.failedParameters (parametersOf (parameterPayload 2 1 1)) = none
      ∧ State.reset.tbs.failedParameters (parametersOf (parameterPayload 0 0 1)) = none
      ∧ (parametersOf (parameterPayload 0 0 1)).strappingStation = none := by
  simp only [quiet_iff, due_iff]
  and_intros <;> decide +kernel

/-- A DECLARE payload: the card number, the last digits of the value, and one declared count of this index. -/
def declarePayload (card : List Byte) (digits index : Byte) : List Byte :=
  card ++ [0, 0, 0, 0, 0, 0, digits] ++ [1, index, 0, 1] ++ [0]

/-- With this many declarations of other cards. -/
def withDeclarations (s : State) (n : Nat) : State :=
  { s with dpu := { s.dpu with
      declarations := (List.range n).map (fun i => { card := 100 + i, value := zeroValue, counts := [], reference := [] }) } }

/-- Each line of Table 6-4: cards 0, 1, 99,999,999 and 100,000,000, indices 15 and 16, digit 10, a card listed, a card in use, seven and eight declarations; WITHDRAW of a card listed and of one that is not. -/
theorem witness_Declarations :
    (∀ s ∈ [line, withDeclarations line 7, withDeclarations line 8, withContexts line [deposit 1 0]],
        ∀ p ∈ [declarePayload [0, 0, 0, 1] 0x10 15, declarePayload [0, 0, 0, 0] 0x10 15, declarePayload [5, 245, 224, 255] 0x10 15,
               declarePayload [5, 245, 225, 0] 0x10 15, declarePayload [0, 0, 0, 1] 0x0A 15, declarePayload [0, 0, 0, 1] 0x10 16,
               declarePayload [0, 0, 0, 100] 0x10 0, declarePayload [0, 0, 0, 5] 0x10 0, [0]],
        (asks s 0x15 p).Quiet ∧ (asks s 0x15 p).Due .declare (asked 0x15 p) [])
      ∧ declareLengthOk [0] = false ∧ declareLengthOk (declarePayload [0, 0, 0, 1] 0x10 15) = true
      ∧ digitsValid (declaredValueBytes (declarePayload [0, 0, 0, 1] 0x0A 15)) = false
      ∧ digitsValid (declaredValueBytes (declarePayload [0, 0, 0, 1] 0x10 15)) = true
      ∧ number32At (declarePayload [5, 245, 224, 255] 0x10 15) 0 = 99999999
      ∧ number32At (declarePayload [5, 245, 225, 0] 0x10 15) 0 = 100000000
      ∧ declaredPairs (declarePayload [0, 0, 0, 1] 0x10 16) 1 12 = [(16, 1)]
      ∧ declaredPairs (declarePayload [0, 0, 0, 1] 0x10 15) 1 12 = [(15, 1)]
      ∧ (∃ d ∈ (withDeclarations line 7).dpu.declarations, d.card = 100)
      ∧ (∀ d ∈ (withDeclarations line 7).dpu.declarations, d.card ≠ 1)
      ∧ (∃ c ∈ (withContexts line [deposit 1 0]).dpu.contexts, c.card = some 5)
      ∧ (withDeclarations line 7).dpu.declarations.length = 7 ∧ (withDeclarations line 8).dpu.declarations.length = 8
      ∧ (∀ p ∈ [[0, 0, 0, 100], [0, 0, 0, 1]], (asks (withDeclarations line 7) 0x16 p).Due .withdraw (asked 0x16 p) []) := by
  simp only [quiet_iff, due_iff]
  and_intros <;> decide +kernel

/-- No deposit; one with a note in transit; one with none. -/
theorem witness_ForceDepositEnd :
    ∀ s ∈ [line, withContexts line [deposit 1 1], withContexts line [deposit 1 0]], (asks s 0x18 []).Quiet
      ∧ (asks s 0x18 []).Due .forceDepositEnd (asked 0x18 []) [] ∧ (s.dpu.contexts.map Context.seq).Nodup
      ∧ s.activeContext = s.dpu.contexts.head? := by
  simp only [quiet_iff, due_iff]
  decide +kernel

/-- A deposit-pure pocket that holds the deposit alone: strapped and loose with notes, and with a commitment. -/
theorem witness_ForceDepositEnd_pure :
    (∀ p ∈ [{ strapPocket with held := 2 }, { loosePocket with held := 2, emptyEye := true },
              { strapPocket with state := .full, committed := 1, held := 2 }],
        ∀ q, q = { p with
          assignment := p.assignment.map (fun a => { a with pure := true }),
          contributions := [{ deposit := 1, committed := p.committed, delivered := 2 }] } →
        (asks (withPocket (withContexts line [deposit 1 0]) 2 q) 0x18 []).Quiet
        ∧ (asks (withPocket (withContexts line [deposit 1 0]) 2 q) 0x18 []).pocket 2 = q ∧ q.isPure = true
        ∧ q.contributions.map Contribution.deposit = [1] ∧ (q.state = .open ∨ q.state = .full)) := by
  simp only [quiet_iff, forall_eq]
  decide +kernel

/-- No deposit; one with a note in transit; three and four contexts in use. -/
theorem witness_CardBoundary :
    (∀ s ∈ [line, withContexts line [deposit 1 1], withContexts line [deposit 1 1, ended, ended].dropLast,
            withContexts line [deposit 1 1, { ended with seq := 2 }, { ended with seq := 3 }],
            withContexts line [deposit 1 1, { ended with seq := 2 }, { ended with seq := 3 }, { ended with seq := 4 }]],
        s.activeContext = s.dpu.contexts.head? ∧ ∀ c ∈ s.activeContext, 0 < c.inTransit)
      ∧ ([deposit 1 1, { ended with seq := 2 }, { ended with seq := 3 }, { ended with seq := 4 }].map Context.seq).Nodup := by
  and_intros <;> decide +kernel

/-- Every line state; with entries and without. -/
theorem witness_LineRunStop :
    (∀ l ∈ [LineState.standby, .ready, .run, .drain, .haltStopping, .haltStopped], (asks (lineIn l) 0x17 [0]).Quiet
        ∧ (asks (lineIn l) 0x17 [0]).Due .lineControlRun (asked 0x17 [0]) []
        ∧ (asks (lineIn l) 0x17 [1]).Due .lineControlStop (asked 0x17 [1]) [])
      ∧ (asks (carrying .routed) 0x17 [1]).Quiet ∧ (carrying .routed).trk.queue ≠ []
      ∧ (asks (carrying .routed) 0x17 [1]).Due .lineControlStop (asked 0x17 [1]) [] := by
  simp only [quiet_iff, due_iff]
  and_intros <;> decide +kernel

/-- Every line state. -/
theorem witness_LineHaltResume :
    ∀ l ∈ [LineState.standby, .ready, .run, .drain, .haltStopping, .haltStopped], (asks (lineIn l) 0x17 [2]).Quiet
      ∧ (asks (lineIn l) 0x17 [2]).Due .lineControlHalt (asked 0x17 [2]) []
      ∧ (asks (lineIn l) 0x17 [3]).Due .lineControlResume (asked 0x17 [3]) [] := by
  simp only [quiet_iff, due_iff]
  decide +kernel

/-- RUN; a record waiting; READY with notes held, with a commitment, and with content seen. -/
theorem witness_LineClear :
    (∀ s ∈ [line, State.hold .recordBacklog (sending (withPocket (lineIn .ready) 2 { strapPocket with record := some record })),
            withPocket (lineIn .ready) 2 { strapPocket with held := 1 },
            withPocket (lineIn .ready) 2 strapCommitted,
            withPocket (lineIn .haltStopped) 2 { strapPocket with emptyEye := true }],
        (asks s 0x17 [4]).Quiet ∧ (asks s 0x17 [4]).Due .lineControlClear (asked 0x17 [4]) [])
      ∧ (∀ k, ((lineIn .ready).pocket k).record = none) ∧ (lineIn .ready).tbs.swapPending = false := by
  simp only [quiet_iff, due_iff]
  and_intros <;> decide +kernel

/-- Numbers 0, 1, 16 and 17; pockets OPEN, FULL and INHIBITED, empty, with a note and with a commitment. -/
theorem witness_PocketModes :
    (∀ n ∈ [(0 : Byte), 17], ∀ c ∈ [(0 : Byte), 1, 2], (asks line 0x19 [c, n]).Quiet ∧ (asked 0x19 [c, n]).broadcast = false
        ∧ (asks line 0x19 [c, n]).cmp.commands = [asked 0x19 [c, n]])
      ∧ (∀ p ∈ [strapPocket, strapCommitted, { strapPocket with held := 1 }, { loosePocket with held := 1, emptyEye := true },
                { strapPocket with state := .full, held := 2, committed := 1 }],
        (asks (withPocket line 2 p) 0x19 [0, 3]).Quiet ∧ (p.state = .open ∨ p.state = .full)
        ∧ (asks (withPocket line 2 p) 0x19 [0, 3]).Due .pocketControlInhibit (asked 0x19 [0, 3]) []
        ∧ (asks (withPocket line 2 p) 0x19 [2, 3]).Due .pocketControlCloseShort (asked 0x19 [2, 3]) [])
      ∧ (∀ p ∈ [strapPocket, { strapPocket with held := 2, committed := 1 }, { strapPocket with held := 3 }],
        (asks (withPocket line 2 { p with state := .inhibited }) 0x19 [1, 3]).Quiet
        ∧ (asks (withPocket line 2 { p with state := .inhibited }) 0x19 [1, 3]).Due .pocketControlRelease (asked 0x19 [1, 3]) [])
      ∧ (1 : Byte).toNat = (0 : PocketNo).val + 1 ∧ (16 : Byte).toNat = (15 : PocketNo).val + 1 ∧ 16 < (17 : Byte).toNat := by
  simp only [quiet_iff, due_iff]
  and_intros <;> decide +kernel

/-- Numbers 0 and 17; a pocket OPEN; one with content; FAULT with a commitment, with a note and empty; UNACCOUNTED. -/
theorem witness_PocketClear :
    (∀ n ∈ [(0 : Byte), 3, 17], (asks line 0x19 [3, n]).Quiet
        ∧ (asks line 0x19 [3, n]).Due .pocketControlClear (asked 0x19 [3, n]) [])
      ∧ (∀ p ∈ [{ strapPocket with emptyEye := true }, strapCommitted, { strapPocket with held := 1 }, strapPocket],
        (asks (withPocket line 2 { p with state := .fault }) 0x19 [3, 3]).Quiet
        ∧ (asks (withPocket line 2 { p with state := .fault }) 0x19 [3, 3]).Due .pocketControlClear (asked 0x19 [3, 3]) [])
      ∧ (asks (withPocket line 2 { strapPocket with state := .unaccounted }) 0x19 [3, 3]).Quiet
      ∧ (asks (withPocket line 2 { strapPocket with state := .unaccounted }) 0x19 [3, 3]).Due .pocketControlClear (asked 0x19 [3, 3]) []
      ∧ strapPocket.assignment = some { cls := some 0, kind := .strapped 3, pure := false }
      ∧ strapPocket.committed + strapPocket.held < strapPocket.limit := by
  simp only [quiet_iff, due_iff]
  and_intros <;> decide +kernel

/-- Addressed, and a broadcast FEED_HOLD. -/
theorem witness_HoldsAndCounters :
    (asks line 0x1A [1]).Quiet ∧ (asks line 0x1A [1]).Due .feedHoldSet (asked 0x1A [1]) []
      ∧ (asks line 0x1A [0]).Due .feedHoldClear (asked 0x1A [0]) [] ∧ (asks line 0x1B []).Due .intakeRestart (asked 0x1B []) []
      ∧ (asks line 0x1F []).Due .countersClear (asked 0x1F []) []
      ∧ (∀ s ∈ [{ line with cmp := { line.cmp with commands := [{ asked 0x1A [1] with broadcast := true }] } }],
        s.Quiet ∧ s.Due .feedHoldSet { asked 0x1A [1] with broadcast := true } []) := by
  simp only [quiet_iff, due_iff]
  and_intros <;> decide +kernel

theorem witness_EventSets :
    (asks line 0x1C [1, 0, 1]).Quiet ∧ (asks line 0x1C [1, 0, 1]).Due .eventEnableSet (asked 0x1C [1, 0, 1]) []
      ∧ (asks line 0x1C [0, 0, 1]).Due .eventEnableClear (asked 0x1C [0, 0, 1]) []
      ∧ (asks line 0x1D [0, 1]).Due .eventClear (asked 0x1D [0, 1]) [] := by
  simp only [quiet_iff, due_iff]
  and_intros <;> decide +kernel

/-- Every page; pocket numbers 0, 1, 16 and 17. -/
theorem witness_StatusQueries :
    (∀ r ∈ [(0, Instr.statusQueryLine), (2, .statusQueryDeposits), (3, .statusQueryTransit), (4, .statusQueryCounters),
              (5, .statusQueryWatch)], (asks line 0x1E [r.1, 0]).Quiet ∧ (asks line 0x1E [r.1, 0]).Due r.2 (asked 0x1E [r.1, 0]) [])
      ∧ (∀ n ∈ [(0 : Byte), 1, 16, 17], (asks line 0x1E [1, n]).Due .statusQueryPocket (asked 0x1E [1, n]) [])
      ∧ (1 : Byte).toNat = (0 : PocketNo).val + 1 ∧ (16 : Byte).toNat = (15 : PocketNo).val + 1 ∧ 16 < (17 : Byte).toNat := by
  simp only [quiet_iff, due_iff]
  and_intros <;> decide +kernel

/-- No last hit, and one with a serial of twelve. -/
theorem witness_PageSizes :
    line.rte.lastHit = none ∧ (LastHit.mk 0 (List.replicate 12 0x41) 1 1).serial.length ≤ 12 := by
  and_intros <;> decide +kernel

/-! ## Witnesses: accounts -/

/-- The least and the greatest face value. -/
theorem witness_CreditAdds :
    maxValue.length = 14 ∧ 1 ≤ 99999999 ∧ 99999999 ≤ 99999999 := by
  and_intros <;> decide +kernel

/-- Saturated, undeclared, and declared below, equal and above. -/
theorem witness_DepositOutcome :
    (deposit 1 0).value.length = 14 ∧ (digitsOfNat 14 10).length = 14 ∧ (deposit 1 0).valueSaturated = false
      ∧ (deposit 1 0).declaration = none ∧ digitsValue (digitsOfNat 14 9) < digitsValue (digitsOfNat 14 10) := by
  and_intros <;> decide +kernel

/-- A deposit with a note in transit, and the destinations that count. -/
theorem witness_DepositAccount :
    (deposit 1 1).Balanced ∧ 0 < (deposit 1 1).inTransit ∧ (deposit 1 1).counting = true
      ∧ (placed 1 .deflecting).destination = some (.cls 0) ∧ RejectReason.countIndex .tied = some 0 := by
  simp only [Context.Balanced]
  decide +kernel

/-- The line with a note of deposit 1 on its way keeps its accounts, and the next sequences are new. -/
theorem witness_DepositAccount_step :
    (∀ s ∈ [carrying .deflecting, withQueue line [seen 1]], s.AccountsHold)
      ∧ (∀ e ∈ [placed 7 .deflecting], e.seq ≠ line.trk.nextSeq ∧ e.deposit ≠ some 2)
      ∧ (∀ c ∈ [deposit 1 1], c.seq ≠ 2) ∧ ∃ t, step ((carrying .deflecting).withPending [.arrival 2]) = .next t := by
  refine ⟨?_, by decide +kernel, by decide +kernel, _, rfl⟩
  simp only [List.mem_cons, List.not_mem_nil, or_false]
  rintro s (rfl | rfl)
  · refine ⟨by decide +kernel, by decide +kernel, by decide +kernel, ?_, ?_⟩
    · intro e he _
      obtain rfl : e = placed 1 .deflecting := by simpa [carrying, withContexts, withPocket, withQueue, State.storePocket] using he
      exact Or.inl ⟨0, rfl⟩
    · simp only [Context.Balanced]
      decide +kernel
  · refine ⟨by decide +kernel, by decide +kernel, by decide +kernel, by simp [withQueue, seen, State.newEntry], ?_⟩
    simp only [Context.Balanced]
    decide +kernel

/-- A pocket with a commitment; a list of eight at pocket 1 with an unlisted note. -/
theorem witness_PocketAccount :
    strapCommitted.Balanced ∧ strapCommitted.contributions.length ≤ 8 ∧ hasPlace 2 strapCommitted.contributions = true
      ∧ (∃ c ∈ strapCommitted.contributions, c.deposit = 1 ∧ 0 < c.committed)
      ∧ (∀ p ∈ [{ loosePocket with
                  committed := 9, unlistedCommitted := 1,
                  contributions := (List.range 8).map (fun d => { deposit := d, committed := 1, delivered := 0 }) }],
        p.Balanced ∧ p.contributions.length ≤ 8 ∧ (∀ c ∈ p.contributions, c.deposit ≠ 9) ∧ 0 < p.unlistedCommitted) := by
  simp only [Pocket.Balanced]
  decide +kernel

end Sys2Proof.Tests
end

/-! SUPPORT. The bounds of a pocket record (contribution list, strap order, strap timer), operation by operation. -/

namespace Sys2Proof.Machine

/- One theorem at a time: many at once exhaust the threads. -/
set_option Elab.async false

/-! ## Pocket records under the bounds -/

/-- `q` has the contributions and the strap slots of `p`. -/
def Pocket.SameSlots (p q : Pocket) : Prop :=
  q.contributions = p.contributions ∧ q.strapOrder = p.strapOrder ∧ q.strapTimer = p.strapTimer

/-- The pocket record `q` keeps the bounds of `p`: the length of the contribution list and the places of the strap order and
of the strap timer (Table 0-6, R81, R82). -/
structure Pocket.KeepsBounds (p q : Pocket) : Prop where
  list : p.contributions.length ≤ 8 → q.contributions.length ≤ 8
  order : (p.strapOrder ≠ none → p.state = .complete) → q.strapOrder ≠ none → q.state = .complete
  timer : (p.strapTimer ≠ none → p.state = .strapping) → q.strapTimer ≠ none → q.state = .strapping

/-- No state that `p` is moved to breaks the places of its strap slots: each is empty, or empty by its own rule. -/
def Pocket.Movable (p : Pocket) : Prop :=
  (p.strapOrder = none ∨ p.state ≠ .complete) ∧ (p.strapTimer = none ∨ p.state ≠ .strapping)

namespace Pocket

variable {p q r : Pocket} {b : Bank} {k : PocketNo} {d n : Nat}

@[simp] theorem KeepsBounds.refl (p : Pocket) : p.KeepsBounds p := ⟨id, id, id⟩

theorem KeepsBounds.trans (h : p.KeepsBounds q) (g : q.KeepsBounds r) : p.KeepsBounds r :=
  ⟨g.list ∘ h.list, g.order ∘ h.order, g.timer ∘ h.timer⟩

theorem SameSlots.refl (p : Pocket) : p.SameSlots p := ⟨rfl, rfl, rfl⟩

theorem SameSlots.trans (h : p.SameSlots q) (g : q.SameSlots r) : p.SameSlots r :=
  ⟨g.1.trans h.1, g.2.1.trans h.2.1, g.2.2.trans h.2.2⟩

/-- A record whose slots stay and whose state stays, or leaves one that the slots do not depend on, keeps the bounds. -/
theorem SameSlots.keeps (h : p.SameSlots q) (hm : q.state = p.state ∨ p.Movable) : p.KeepsBounds q := by
  obtain ⟨hc, ho, ht⟩ := h
  refine ⟨by rw [hc]; exact id, ?_, ?_⟩ <;> unfold Movable at hm <;> grind

theorem movable_of_state (h1 : p.state ≠ .complete) (h2 : p.state ≠ .strapping) : p.Movable := ⟨.inr h1, .inr h2⟩

/-! ### Operations that leave the slots alone -/

theorem sameSlots_completionTest (p : Pocket) : p.SameSlots p.completionTest := by
  unfold completionTest
  repeat' split
  all_goals exact SameSlots.refl p

theorem sameSlots_limitTest (p : Pocket) : p.SameSlots p.limitTest := by
  unfold limitTest completionTest
  dsimp only
  repeat' split
  all_goals exact SameSlots.refl p

theorem sameSlots_setLimit (p : Pocket) : p.SameSlots p.setLimit := sameSlots_limitTest { p with limit := p.limitFor }

theorem sameSlots_enterOpen (p : Pocket) : p.SameSlots p.enterOpen := sameSlots_limitTest { p with state := .open }

theorem sameSlots_reopen (p : Pocket) : p.SameSlots p.reopen := sameSlots_setLimit { p with state := .open }

theorem sameSlots_takeAssignment (b : Bank) (k : PocketNo) (p : Pocket) : p.SameSlots (p.takeAssignment b k) := by
  unfold takeAssignment
  dsimp only
  split
  · exact SameSlots.refl p
  · split
    · exact SameSlots.refl p
    · exact sameSlots_enterOpen _

theorem sameSlots_closingTest (b : Bank) (k : PocketNo) (p : Pocket) : p.SameSlots (p.closingTest b k) := by
  unfold closingTest
  dsimp only
  split
  · split
    · split <;> exact SameSlots.refl p
    · split
      · exact sameSlots_takeAssignment b k p
      · exact sameSlots_enterOpen p
  · exact SameSlots.refl p

theorem sameSlots_close (b : Bank) (k : PocketNo) (p : Pocket) : p.SameSlots (p.close b k) :=
  sameSlots_closingTest b k { p with state := .closing }

theorem sameSlots_release (b : Bank) (k : PocketNo) (p : Pocket) : p.SameSlots (p.release b k) := by
  unfold release
  split
  · exact sameSlots_close b k p
  · split
    · exact SameSlots.refl p
    · exact (sameSlots_enterOpen p).trans (sameSlots_completionTest _)

/-! ### The states that these operations leave -/

theorem completionTest_bounds (p : Pocket) : p.KeepsBounds p.completionTest := by
  refine (sameSlots_completionTest p).keeps ?_
  by_cases h : p.state = .full
  · exact .inr (movable_of_state (by simp [h]) (by simp [h]))
  · exact .inl (by simp [completionTest, h])

theorem limitTest_bounds (p : Pocket) : p.KeepsBounds p.limitTest := by
  refine (sameSlots_limitTest p).keeps ?_
  by_cases h : p.state = .open ∨ p.state = .full
  · exact .inr (movable_of_state (by grind) (by grind))
  · exact .inl (by simp only [not_or] at h; simp [limitTest, completionTest, h])

theorem setLimit_bounds (p : Pocket) : p.KeepsBounds p.setLimit :=
  (SameSlots.keeps (q := { p with limit := p.limitFor }) (.refl p) (.inl rfl)).trans (limitTest_bounds _)

theorem closingTest_bounds (b : Bank) (k : PocketNo) (p : Pocket) : p.KeepsBounds (p.closingTest b k) := by
  refine (sameSlots_closingTest b k p).keeps ?_
  by_cases h : p.state = .closing
  · exact .inr (movable_of_state (by simp [h]) (by simp [h]))
  · exact .inl (by simp [closingTest, h])

theorem takeAssignment_bounds (h : p.Movable) : p.KeepsBounds (p.takeAssignment b k) :=
  (sameSlots_takeAssignment b k p).keeps (.inr h)

theorem close_bounds (h : p.Movable) : p.KeepsBounds (p.close b k) := (sameSlots_close b k p).keeps (.inr h)

/-- R91: only a pocket in a state without a strap order or timer moves at a swap. -/
theorem changeBank_bounds (b : Bank) (k : PocketNo) (p : Pocket) : p.KeepsBounds (p.changeBank b k) := by
  have mov : ∀ {q : Pocket}, p.SameSlots q → p.state ≠ .complete → p.state ≠ .strapping → p.KeepsBounds q :=
    fun hq h1 h2 => hq.keeps (.inr (movable_of_state h1 h2))
  unfold changeBank
  dsimp only
  split
  · split
    · rename_i h
      split
      · exact mov (.refl p) (by simp [h]) (by simp [h])
      · exact mov (sameSlots_enterOpen { p with assignment := _, limit := _ }) (by simp [h]) (by simp [h])
    · exact (SameSlots.keeps (q := { p with assignment := b.assignmentFor k }) (.refl p) (.inl rfl)).trans
        (setLimit_bounds _)
  · split
    · exact SameSlots.keeps (.refl p) (.inl rfl)
    · split <;> rename_i h
      · exact mov (sameSlots_takeAssignment b k { p with changeover := true }) (by simp [h]) (by simp [h])
      · exact mov (sameSlots_takeAssignment b k { p with changeover := true }) (by simp [h]) (by simp [h])
      · exact mov (sameSlots_close b k { p with changeover := true }) (by simp [h]) (by simp [h])
      · exact mov (sameSlots_close b k { p with changeover := true }) (by simp [h]) (by simp [h])
      all_goals exact SameSlots.keeps (.refl p) (.inl rfl)

/-! ### Contribution lists -/

theorem addContribution_bounds (k : PocketNo) (d : Nat) (p : Pocket) : p.KeepsBounds (p.addContribution k d) := by
  unfold addContribution
  split
  · exact ⟨by simp [changeListed], id, id⟩
  · split
    · exact ⟨id, id, id⟩
    · split
      · exact ⟨fun _ => by simp; omega, id, id⟩
      · exact .refl p

theorem dropContribution_bounds (k : PocketNo) (d : Nat) (p : Pocket) : p.KeepsBounds (p.dropContribution k d) := by
  unfold dropContribution
  dsimp only
  split
  · refine ⟨fun h => (List.length_filter_le _ _).trans ?_, id, id⟩
    simpa [changeListed] using h
  · split <;> exact ⟨id, id, id⟩

theorem deliverContribution_bounds (k : PocketNo) (d : Nat) (p : Pocket) : p.KeepsBounds (p.deliverContribution k d) := by
  unfold deliverContribution
  dsimp only
  split
  · exact ⟨by simp [changeListed], id, id⟩
  · split <;> exact ⟨id, id, id⟩

theorem commit_bounds (k : PocketNo) (d n : Nat) (p : Pocket) : p.KeepsBounds (p.commit k d n) := by
  have counted : p.KeepsBounds { p with bundle := some (p.bundleOr n), committed := p.committed + 1 } := ⟨id, id, id⟩
  have added := counted.trans (addContribution_bounds k d _)
  unfold commit
  dsimp only
  split
  · rename_i h
    exact added.trans (SameSlots.keeps (.refl _) (.inr (movable_of_state (by simp [h.1]) (by simp [h.1]))))
  · exact added

theorem withdrawCounts_bounds (k : PocketNo) (d : Nat) (p : Pocket) : p.KeepsBounds (p.withdrawCounts k d) := by
  have counted : p.KeepsBounds { p with committed := p.committed - 1 } := ⟨id, id, id⟩
  have dropped := counted.trans (dropContribution_bounds k d _)
  unfold withdrawCounts
  dsimp only
  split
  · exact dropped.trans ⟨id, id, id⟩
  · exact dropped

theorem withdraw_bounds (b : Bank) (k : PocketNo) (d : Nat) (p : Pocket) : p.KeepsBounds (p.withdraw b k d) := by
  have counted := withdrawCounts_bounds k d p
  unfold withdraw
  dsimp only
  split
  · rename_i h
    refine (counted.trans ?_).trans (closingTest_bounds b k _)
    exact SameSlots.keeps (.refl _) (.inr (movable_of_state (by simp [h.1]) (by simp [h.1])))
  · exact counted.trans (closingTest_bounds b k _)

theorem deliver_bounds (b : Bank) (k : PocketNo) (d : Nat) (card : Bool) (p : Pocket) :
    p.KeepsBounds (p.deliver b k d card) := by
  have counted : p.KeepsBounds { p with
      committed := p.committed - 1
      held := p.held + 1
      cardsHeld := if card && decide (k = pocket1) then p.cardsHeld + 1 else p.cardsHeld } := ⟨id, id, id⟩
  have delivered := counted.trans (deliverContribution_bounds k d _)
  exact (delivered.trans (completionTest_bounds _)).trans (closingTest_bounds b k _)

theorem issue_bounds (st : BundleStatus) (n : Nat) (p : Pocket) : p.KeepsBounds (p.issue st n) := by
  refine ⟨fun h => ?_, id, id⟩
  simp only [issue, List.length_map]
  exact (List.length_filter_le _ _).trans h

end Pocket
end Sys2Proof.Machine

/-! SUPPORT. The bounds of the whole part as a relation between two states, and that the latches, the pockets and the tables
stand in it. -/

namespace Sys2Proof.Machine

/- One theorem at a time: many at once exhaust the threads. -/
set_option Elab.async false

/-! ## The relation every operation stands in -/

/-- A number among 1 to `top`. -/
def InRange (top n : Nat) : Prop := 1 ≤ n ∧ n ≤ top

theorem inRange_nextWrapping {top : Nat} (h : 1 ≤ top) (n : Nat) : InRange top (nextWrapping top n) := by
  unfold InRange nextWrapping
  split <;> omega

theorem inRange_next16 (n : Nat) : InRange 65535 (next16 n) := inRange_nextWrapping (by decide) n

theorem inRange_next32 (n : Nat) : InRange 4294967295 (next32 n) := inRange_nextWrapping (by decide) n

/-- R56, of the gates alone. -/
def GateDriver.Follow (g : GateDriver) : Prop := ∀ k : PocketNo, g.gates[k].on = decide (0 < g.gates[k].deflecting)

/-- `t` keeps the bounds of `s`: each bound of BoundsKept that holds in `s` holds in `t`. What an operation leaves alone is
left to `simp` and the frame lemmas; its own lemma gives the fields it touches. -/
structure State.KeepsBounds (s t : State) : Prop where
  queue : s.trk.queue.length ≤ 12 → t.trk.queue.length ≤ 12 := by simp
  phase : s.PhaseBelow → t.PhaseBelow := by simp [State.PhaseBelow]
  nextSeq : InRange 65535 s.trk.nextSeq → InRange 65535 t.trk.nextSeq := by simp
  fifo : s.idu.fifo.length ≤ 8 → t.idu.fifo.length ≤ 8 := by simp
  forward : s.lnk.forward.length ≤ 8 → t.lnk.forward.length ≤ 8 := by simp
  commands : s.cmp.commands.length ≤ 4 → t.cmp.commands.length ≤ 4 := by simp
  replies : s.cmp.replies.length ≤ 4 → t.cmp.replies.length ≤ 4 := by simp
  contexts : s.dpu.contexts.length ≤ 4 → t.dpu.contexts.length ≤ 4 := by simp
  oneActive : s.OneActive → t.OneActive := by simp [State.OneActive]
  declarations : s.dpu.declarations.length ≤ 8 → t.dpu.declarations.length ≤ 8 := by simp
  nextDeposit : InRange 65535 s.dpu.nextDeposit → InRange 65535 t.dpu.nextDeposit := by simp
  pockets : ∀ k : PocketNo, Pocket.KeepsBounds s.pkm.pockets[k] t.pkm.pockets[k] := by simp
  nextBundle : InRange 4294967295 s.pkm.nextBundle → InRange 4294967295 t.pkm.nextBundle := by simp
  generation : s.tbs.generation ≤ 65535 → t.tbs.generation ≤ 65535 := by simp
  gates : s.gdr.Follow → t.gdr.Follow := by simp

@[simp] theorem TableStore.exchange_params (t : TableStore) : t.exchange.params = t.params := rfl

namespace State

variable {s t u : State}

theorem KeepsBounds.refl (s : State) : s.KeepsBounds s := {}

theorem KeepsBounds.trans (h : s.KeepsBounds t) (g : t.KeepsBounds u) : s.KeepsBounds u where
  queue := g.queue ∘ h.queue
  phase := g.phase ∘ h.phase
  nextSeq := g.nextSeq ∘ h.nextSeq
  fifo := g.fifo ∘ h.fifo
  forward := g.forward ∘ h.forward
  commands := g.commands ∘ h.commands
  replies := g.replies ∘ h.replies
  contexts := g.contexts ∘ h.contexts
  oneActive := g.oneActive ∘ h.oneActive
  declarations := g.declarations ∘ h.declarations
  nextDeposit := g.nextDeposit ∘ h.nextDeposit
  pockets k := (h.pockets k).trans (g.pockets k)
  nextBundle := g.nextBundle ∘ h.nextBundle
  generation := g.generation ∘ h.generation
  gates := g.gates ∘ h.gates

/-- A conditional update keeps the bounds if both branches do. -/
theorem KeepsBounds.ite {c : Prop} [Decidable c] (h : c → s.KeepsBounds t) (g : ¬ c → s.KeepsBounds u) :
    s.KeepsBounds (if c then t else u) := by
  split
  · exact h ‹_›
  · exact g ‹_›

theorem KeepsBounds.foldl {α : Type} {f : State → α → State} (h : ∀ (s : State) (a : α), s.KeepsBounds (f s a))
    (l : List α) (s : State) : s.KeepsBounds (l.foldl f s) := by
  induction l generalizing s with
  | nil => exact .refl s
  | cons a l ih => exact (h s a).trans (ih (f s a))

/-- The bounds of BoundsKept, from the relation. -/
theorem KeepsBounds.kept (h : s.KeepsBounds t) :
    (s.WithinCapacity → t.WithinCapacity) ∧ (s.OneActive → t.OneActive) ∧ (s.GatesFollow → t.GatesFollow)
      ∧ (s.PhaseBelow → t.PhaseBelow) ∧ (s.NumbersInRange → t.NumbersInRange) ∧ (s.OrdersInPlace → t.OrdersInPlace) := by
  refine ⟨?_, h.oneActive, h.gates, h.phase, ?_, ?_⟩
  · rintro ⟨hq, hi, hf, hc, hr, hx, hd, hp⟩
    exact ⟨h.queue hq, h.fifo hi, h.forward hf, h.commands hc, h.replies hr, h.contexts hx, h.declarations hd,
      fun k => (h.pockets k).list (hp k)⟩
  · rintro ⟨hs, hd, hb, hg⟩
    exact ⟨h.nextSeq hs, h.nextDeposit hd, h.nextBundle hb, h.generation hg⟩
  · exact fun hp k => ⟨(h.pockets k).order (hp k).1, (h.pockets k).timer (hp k).2⟩

/-- A state in which every bound holds keeps the bounds of any other. -/
theorem KeepsBounds.of_inBounds (h : t.WithinCapacity ∧ t.OneActive ∧ t.GatesFollow ∧ t.PhaseBelow ∧ t.NumbersInRange
    ∧ t.OrdersInPlace) : s.KeepsBounds t := by
  obtain ⟨⟨hq, hi, hf, hc, hr, hx, hd, hp⟩, active, gates, phase, ⟨seq, deposit, bundle, generation⟩, orders⟩ := h
  exact {
    queue := fun _ => hq, phase := fun _ => phase, nextSeq := fun _ => seq, fifo := fun _ => hi, forward := fun _ => hf,
    commands := fun _ => hc, replies := fun _ => hr, contexts := fun _ => hx, oneActive := fun _ => active,
    declarations := fun _ => hd, nextDeposit := fun _ => deposit, nextBundle := fun _ => bundle,
    generation := fun _ => generation, gates := fun _ => gates,
    pockets := fun k => ⟨fun _ => hp k, fun _ => (orders k).1, fun _ => (orders k).2⟩ }

/-! ## Latches -/

theorem raise_bounds (k : EventKind) (s : State) : s.KeepsBounds (s.raise k) := {}
theorem bump_bounds (c : Counter) (s : State) : s.KeepsBounds (s.bump c) := {}
theorem hold_bounds (r : FeedReason) (s : State) : s.KeepsBounds (s.hold r) := {}
theorem release_bounds (r : FeedReason) (s : State) : s.KeepsBounds (s.release r) := {}
theorem holdWhile_bounds (r : FeedReason) (b : Bool) (s : State) : s.KeepsBounds (s.holdWhile r b) := {}
theorem haltCause_bounds (c : HaltCause) (s : State) : s.KeepsBounds (s.haltCause c) := {}

/-! ## Pockets -/

@[simp] theorem setBlocked_pocket (w : BitVec 24) (s : State) (j : PocketNo) :
    (s.setBlocked w).pocket j = s.pocket j := by
  simp [pocket]

@[simp] theorem putPocket_pocket_same (k : PocketNo) (p : Pocket) (s : State) : (s.putPocket k p).pocket k = p := by
  unfold putPocket
  split <;> simp

@[simp] theorem issueRecord_pocket_same (k : PocketNo) (st : BundleStatus) (s : State) :
    (s.issueRecord k st).pocket k = (s.pocket k).issue st s.pkm.nextBundle := by
  simp [issueRecord]

variable {k : PocketNo} {p : Pocket}

theorem storePocket_bounds (h : (s.pocket k).KeepsBounds p) : s.KeepsBounds (s.storePocket k p) where
  pockets j := by
    change (s.pocket j).KeepsBounds ((s.storePocket k p).pocket j)
    by_cases e : j = k
    · subst e; simpa using h
    · rw [pocket_storePocket_other e]; exact .refl _

theorem setBlocked_bounds (w : BitVec 24) (s : State) : s.KeepsBounds (s.setBlocked w) := {}

theorem putPocket_bounds (h : (s.pocket k).KeepsBounds p) : s.KeepsBounds (s.putPocket k p) :=
  .ite (fun _ => (storePocket_bounds h).trans (setBlocked_bounds _ _)) fun _ => storePocket_bounds h

theorem reenterPocket_bounds (h : (s.pocket k).KeepsBounds p) : s.KeepsBounds (s.reenterPocket k p) :=
  .ite (fun _ => (storePocket_bounds h).trans (setBlocked_bounds _ _)) fun _ => storePocket_bounds h

theorem blockClass_bounds (c : ClassNo) (s : State) : s.KeepsBounds (s.blockClass c) := {}

theorem faultPocket_bounds (k : PocketNo) (s : State) : s.KeepsBounds (s.faultPocket k) := by
  refine .ite (fun _ => .refl s) fun _ => (putPocket_bounds ?_).trans (raise_bounds _ _)
  exact ⟨id, fun _ h => absurd rfl h, fun _ h => absurd rfl h⟩

theorem strayPocket_bounds (k : PocketNo) (s : State) : s.KeepsBounds (s.strayPocket k) := by
  unfold strayPocket
  split
  · exact putPocket_bounds ⟨id, id, id⟩
  · exact .refl s
  · exact .refl s
  all_goals exact faultPocket_bounds k s

/-- R79: a next bundle number given out or kept is in range. -/
theorem nextBundle_bounds {n : Nat} (h : n = s.pkm.nextBundle ∨ n = next32 s.pkm.nextBundle) :
    s.KeepsBounds { s with pkm := { s.pkm with nextBundle := n } } where
  nextBundle hs := by
    rcases h with rfl | rfl
    · exact hs
    · exact inRange_next32 _

theorem commit_bounds (k : PocketNo) (d : Nat) (s : State) : s.KeepsBounds (s.commit k d) := by
  have entered : s.KeepsBounds (if k = pocket1 ∧ (s.pocket k).state = .unaccounted then s.faultPocket k else s) :=
    .ite (fun _ => faultPocket_bounds k s) fun _ => .refl s
  refine entered.trans ((nextBundle_bounds ?_).trans (putPocket_bounds (Pocket.commit_bounds k d _ _)))
  exact (Decidable.em _).elim (fun h => .inr (if_pos h)) fun h => .inl (if_neg h)

theorem withdraw_bounds (k : PocketNo) (d : Nat) (s : State) : s.KeepsBounds (s.withdraw k d) :=
  putPocket_bounds (Pocket.withdraw_bounds _ k d _)

theorem deliverTo_bounds (k : PocketNo) (d : Nat) (card : Bool) (s : State) : s.KeepsBounds (s.deliverTo k d card) :=
  putPocket_bounds (Pocket.deliver_bounds _ k d card _)

theorem issueRecord_bounds (k : PocketNo) (st : BundleStatus) (s : State) : s.KeepsBounds (s.issueRecord k st) := by
  refine (nextBundle_bounds ?_).trans (putPocket_bounds (Pocket.issue_bounds st _ _))
  by_cases h : (s.pocket k).committed = 0
  · exact .inl (if_pos h)
  · exact .inr (if_neg h)

theorem startBundle_bounds (h : (s.pocket k).Movable) : s.KeepsBounds (s.startBundle k) := by
  unfold startBundle
  split
  · exact reenterPocket_bounds (Pocket.takeAssignment_bounds h)
  · exact reenterPocket_bounds ((Pocket.sameSlots_reopen _).keeps (.inr h))

theorem fillOrder_bounds (k : PocketNo) (s : State) : s.KeepsBounds (s.fillOrder k) := by
  refine .ite (fun h => putPocket_bounds ⟨id, fun _ _ => h.1, id⟩) fun _ => .refl s

theorem issueRemoved_bounds (k : PocketNo) (s : State) : s.KeepsBounds (s.issueRemoved k) := by
  refine .ite (fun h => (issueRecord_bounds k .removed s).trans (startBundle_bounds ?_)) fun _ => .refl s
  rw [issueRecord_pocket_same]
  exact Pocket.movable_of_state (by simp [Pocket.issue, h.1]) (by simp [Pocket.issue, h.1])

theorem heldBack_bounds (s : State) : s.KeepsBounds s.heldBack :=
  .foldl (fun s k => (fillOrder_bounds k s).trans (issueRemoved_bounds k _)) allPockets s

theorem nearFullTest_bounds (s : State) : s.KeepsBounds s.nearFullTest := {}

/-- A pocket in OPEN or FULL has no strap order and no strap timer, so it may close. -/
theorem movable_of_holdsOnly {d : Nat} (h : p.holdsOnly d = true) : p.Movable := by
  have : p.state = .open ∨ p.state = .full := by
    simp only [Pocket.holdsOnly, Bool.and_eq_true, decide_eq_true_eq] at h
    exact h.1.2
  exact Pocket.movable_of_state (by grind) (by grind)

theorem closePure_bounds (d : Nat) (s : State) : s.KeepsBounds (s.closePure d) :=
  .foldl
    (fun s _ => .ite (fun h => reenterPocket_bounds (Pocket.close_bounds (movable_of_holdsOnly h))) fun _ => .refl s)
    allPockets s

theorem changeBanks_bounds (s : State) : s.KeepsBounds s.changeBanks :=
  .foldl (fun _ k => putPocket_bounds (Pocket.changeBank_bounds _ k _)) allPockets s

/-! ## Line clear -/

theorem settleCleared_bounds (h : (s.pocket k).Movable) : s.KeepsBounds (s.settleCleared k) := by
  have emptied : s.KeepsBounds (s.putPocket k { s.pocket k with unaccounted := false }) :=
    putPocket_bounds ⟨id, id, id⟩
  unfold settleCleared
  refine .ite (fun _ => putPocket_bounds ?_) fun _ => emptied.trans (startBundle_bounds ?_)
  · exact Pocket.SameSlots.keeps (.refl _) (.inr h)
  · rw [putPocket_pocket_same]
    exact h

theorem issueCleared_bounds (k : PocketNo) (s : State) : s.KeepsBounds (s.issueCleared k) := by
  have marked (b : Bool) : s.KeepsBounds (s.putPocket k { s.pocket k with short := b }) :=
    putPocket_bounds ⟨id, id, id⟩
  unfold issueCleared
  exact .ite (fun _ => (marked _).trans (issueRecord_bounds k _ _)) fun _ => .refl s

theorem clearPocket_bounds (k : PocketNo) (s : State) : s.KeepsBounds (s.clearPocket k) := by
  have emptied (u : State) : u.KeepsBounds (u.putPocket k { u.pocket k with strapTimer := none, strapOrder := none }) :=
    putPocket_bounds ⟨id, fun _ h => absurd rfl h, fun _ h => absurd rfl h⟩
  unfold clearPocket
  refine .ite (fun _ => .refl s) fun _ => (issueCleared_bounds k s).trans ((emptied _).trans ?_)
  refine .ite (fun _ => faultPocket_bounds k _) fun _ => settleCleared_bounds ?_
  rw [putPocket_pocket_same]
  exact ⟨.inl rfl, .inl rfl⟩

theorem clearPockets_bounds (s : State) : s.KeepsBounds s.clearPockets :=
  .foldl (fun s k => clearPocket_bounds k s) allPockets s

/-! ## Tables -/

theorem leaveStandby_bounds (s : State) : s.KeepsBounds s.leaveStandby := {}

theorem swap_bounds (s : State) : s.KeepsBounds s.swap := by
  have exchanged : s.KeepsBounds { s with tbs := s.tbs.exchange } := { generation := fun _ => (inRange_next16 _).2 }
  exact exchanged.trans ((changeBanks_bounds _).trans ((setBlocked_bounds 0 _).trans
    ((raise_bounds _ _).trans (leaveStandby_bounds _))))

theorem swapTrigger_bounds (s : State) : s.KeepsBounds s.swapTrigger := .ite (fun _ => swap_bounds s) fun _ => .refl s

theorem setLine_bounds (l : LineState) (s : State) : s.KeepsBounds { s with lsv := { s.lsv with line := l } } := {}

theorem enterReady_bounds (s : State) : s.KeepsBounds s.enterReady :=
  (setLine_bounds .ready s).trans (swapTrigger_bounds _)

end State
end Sys2Proof.Machine

/-! SUPPORT. The bounds under the operations of the deposits, the gates and the transit queue. -/

namespace Sys2Proof.Machine

/- One theorem at a time: many at once exhaust the threads. -/
set_option Elab.async false

/- One theorem at a time: many at once exhaust the threads. -/

/-! ## Deposit contexts -/

@[simp] theorem Context.deliver_state (e : Entry) (c : Context) : (c.deliver e).state = c.state := by
  unfold Context.deliver
  dsimp only
  repeat' split
  all_goals rfl

namespace State

variable {s t u : State} {k : PocketNo}

/-- A change of contexts that makes none ACTIVE leaves no more of them ACTIVE. -/
theorem active_map_le {f : Context → Context} (h : ∀ c, (f c).state = .active → c.state = .active) (l : List Context) :
    ((l.map f).filter (fun c => decide (c.state = .active))).length
      ≤ (l.filter (fun c => decide (c.state = .active))).length := by
  simp only [← List.countP_eq_length_filter, List.countP_map]
  exact List.countP_mono_left fun c _ hc => by simpa using h c (by simpa using hc)

theorem mapContexts_bounds {f : Context → Context} (h : ∀ c, (f c).state = .active → c.state = .active) (s : State) :
    s.KeepsBounds { s with dpu := { s.dpu with contexts := s.dpu.contexts.map f } } where
  oneActive := (active_map_le h _).trans

theorem updateContext_bounds {f : Context → Context} (h : ∀ c, (f c).state = .active → c.state = .active) (d : Nat)
    (s : State) : s.KeepsBounds (s.updateContext d f) :=
  mapContexts_bounds (fun c => by split <;> simp_all) s

theorem completeDeposit_bounds (d : Nat) (s : State) : s.KeepsBounds (s.completeDeposit d) := by
  have done (u : State) (l : List Nat) : u.KeepsBounds { u with dpu := { u.dpu with completion := l } } := {}
  exact (updateContext_bounds (by simp) d s).trans ((done _ _).trans (closePure_bounds d _))

theorem completionTest_bounds (d : Nat) (s : State) : s.KeepsBounds (s.completionTest d) := by
  unfold completionTest
  split
  · exact .ite (fun _ => completeDeposit_bounds d s) fun _ => .refl s
  · exact .refl s

theorem endActive_bounds (kind : EndKind) (s : State) : s.KeepsBounds (s.endActive kind) := by
  unfold endActive
  split
  · exact (updateContext_bounds (by simp) _ s).trans (completionTest_bounds _ _)
  · exact .refl s

/-- No context is ACTIVE. -/
def NoActive (s : State) : Prop := ∀ c ∈ s.dpu.contexts, c.state ≠ .active

theorem noActive_updateContext {f : Context → Context} (h : ∀ c, (f c).state = .active → c.state = .active) (d : Nat)
    (hs : s.NoActive) : (s.updateContext d f).NoActive := by
  intro c hc
  rw [updateContext_dpu_contexts, List.mem_map] at hc
  obtain ⟨a, ha, rfl⟩ := hc
  have := hs a ha
  split
  · exact fun e => this (h a e)
  · exact this

theorem noActive_completionTest (d : Nat) (hs : s.NoActive) : (s.completionTest d).NoActive := by
  unfold completionTest
  split
  · split
    · have := noActive_updateContext (f := fun c => { c with state := .recordPending }) (by simp) d hs
      simpa [completeDeposit, NoActive] using this
    · exact hs
  · exact hs

/-- Two ACTIVE contexts are the same one. -/
theorem OneActive.eq {a c : Context} (h : s.OneActive) (ha : a ∈ s.dpu.contexts) (hc : c ∈ s.dpu.contexts)
    (ea : a.state = .active) (ec : c.state = .active) : a = c := by
  unfold OneActive at h
  have ma : a ∈ s.dpu.contexts.filter (fun c => decide (c.state = .active)) := by simp [ha, ea]
  have mc : c ∈ s.dpu.contexts.filter (fun c => decide (c.state = .active)) := by simp [hc, ec]
  generalize s.dpu.contexts.filter (fun c => decide (c.state = .active)) = l at h ma mc
  obtain _ | ⟨x, _ | ⟨y, l⟩⟩ := l
  · cases ma
  · simp_all
  · simp at h

/-- R108: after the ACTIVE context has ended, none is ACTIVE. -/
theorem noActive_endActive (kind : EndKind) (h : s.OneActive) : (s.endActive kind).NoActive := by
  unfold endActive
  split
  · rename_i c hc
    apply noActive_completionTest
    intro x hx
    rw [updateContext_dpu_contexts, List.mem_map] at hx
    obtain ⟨a, ha, rfl⟩ := hx
    by_cases ea : a.state = .active
    · have ec : c.state = .active := by simpa using List.find?_some hc
      have : a = c := h.eq ha (List.mem_of_find?_eq_some hc) ea ec
      simp [this, Context.counting, ec]
    · split <;> simp [ea]
  · rename_i hn
    simpa [activeContext, NoActive] using hn

/-- R105: a context opens where one is FREE and none is ACTIVE. -/
theorem openContext_bounds (h : s.KeepsBounds t) (card : Option Nat) (hl : t.dpu.contexts.length < 4)
    (ha : s.OneActive → t.NoActive) : s.KeepsBounds (t.openContext card) := by
  have opened : s.KeepsBounds { t with dpu := { t.dpu with
      contexts := t.dpu.contexts ++ [Context.opening t.dpu.nextDeposit card (t.declarationFor card)]
      nextDeposit := next16 t.dpu.nextDeposit
      declarations := t.dpu.declarations.filter (fun d => some d.card != card) } } :=
    { h with
      contexts := fun _ => by simp; omega
      oneActive := fun hs => by
        have none : t.dpu.contexts.filter (fun c => decide (c.state = .active)) = [] := by
          simpa [NoActive] using ha hs
        simp [OneActive, none, Context.opening]
      declarations := fun hs => (List.length_filter_le _ _).trans (h.declarations hs)
      nextDeposit := fun _ => inRange_next16 _ }
  have shortage := opened.trans ((hold_bounds .contextShortage _).trans (raise_bounds .contextShortage _))
  unfold openContext
  dsimp only
  split
  · split
    · exact shortage.trans (raise_bounds _ _)
    · exact opened.trans (raise_bounds _ _)
  · split
    · exact shortage
    · exact opened

theorem cardBoundary_bounds (card : Option Nat) (s : State) : s.KeepsBounds (s.cardBoundary card) := by
  have ended := endActive_bounds .card s
  exact .ite (fun h => openContext_bounds ended card h (noActive_endActive .card))
    fun _ => ended.trans (haltCause_bounds _ _)

theorem boundary_bounds (card : CardField) (s : State) : s.KeepsBounds (s.boundary card) := by
  unfold boundary
  split
  · exact endActive_bounds .endCard s
  all_goals exact cardBoundary_bounds _ s

theorem writeOpeningGeneration_bounds (s : State) : s.KeepsBounds s.writeOpeningGeneration := by
  unfold writeOpeningGeneration
  split
  · exact updateContext_bounds (by simp) _ s
  · exact .refl s

theorem assign_bounds (d : Nat) (s : State) : s.KeepsBounds (s.assign d) := updateContext_bounds (by simp) d s

theorem countDelivery_bounds (e : Entry) (s : State) : s.KeepsBounds (s.countDelivery e) := by
  unfold countDelivery
  split
  · exact (updateContext_bounds (by simp) _ s).trans (completionTest_bounds _ _)
  · exact .refl s

theorem countInDoubt_bounds (e : Entry) (s : State) : s.KeepsBounds (s.countInDoubt e) := by
  unfold countInDoubt
  split
  · exact (updateContext_bounds (by simp) _ s).trans (completionTest_bounds _ _)
  · exact .ite (fun _ => .refl s) fun _ => bump_bounds _ s

theorem abortDeposits_bounds (s : State) : s.KeepsBounds s.abortDeposits := by
  have aborted (c : Context) : (c.abort s.tbs.generation).state = .active → c.state = .active := by
    unfold Context.abort
    split <;> simp
  have done (u : State) (l : List Nat) :
      u.KeepsBounds { u with dpu := { u.dpu with completion := l, declarations := [] } } := {}
  exact (mapContexts_bounds aborted s).trans (done _ _)

/-! ## Gates -/

theorem setGate_bounds {g : Gate} (h : g.on = decide (0 < g.deflecting)) (k : PocketNo) (s : State) :
    s.KeepsBounds (s.setGate k g) where
  gates hs j := by
    by_cases e : k.val = j.val
    · simpa [e] using h
    · simpa [e] using hs j

theorem gateEnter_bounds (k : PocketNo) (s : State) : s.KeepsBounds (s.gateEnter k) := setGate_bounds (by simp) k s

theorem gateLeave_bounds (k : PocketNo) (s : State) : s.KeepsBounds (s.gateLeave k) := setGate_bounds (by simp) k s

theorem leaveGateOf_bounds (e : Entry) (s : State) : s.KeepsBounds (s.leaveGateOf e) := by
  unfold leaveGateOf
  split
  · exact .ite (fun _ => gateLeave_bounds _ s) fun _ => .refl s
  · exact .refl s

theorem gatesOff_bounds (s : State) : s.KeepsBounds s.gatesOff := by
  have off (g : GateDriver) (h : g.Follow) : s.KeepsBounds { s with gdr := g } := { gates := fun _ => h }
  exact off _ fun j => by simp

/-! ## The transit queue -/

theorem updateEntry_bounds (seq : Nat) (f : Entry → Entry) (s : State) : s.KeepsBounds (s.updateEntry seq f) := {}

@[simp] theorem dropEntry_trk_queue (seq : Nat) (s : State) :
    (s.dropEntry seq).trk.queue = s.trk.queue.filter (fun e => e.seq != seq) := by
  simp [dropEntry]

theorem dropEntry_bounds (seq : Nat) (s : State) : s.KeepsBounds (s.dropEntry seq) where
  queue h := by rw [dropEntry_trk_queue]; exact (List.length_filter_le _ _).trans h

theorem reportEmpty_bounds (s : State) : s.KeepsBounds s.reportEmpty := by
  have drained : s.KeepsBounds (if s.lsv.line = .drain then s.enterReady else s) :=
    .ite (fun _ => enterReady_bounds s) fun _ => .refl s
  exact .ite (fun _ => drained.trans (swapTrigger_bounds _)) fun _ => drained

theorem removeEntry_bounds (seq : Nat) (s : State) : s.KeepsBounds (s.removeEntry seq) :=
  .ite (fun _ => (dropEntry_bounds seq s).trans (reportEmpty_bounds _)) fun _ => dropEntry_bounds seq s

theorem deliverEntry_bounds (k : PocketNo) (e : Entry) (s : State) : s.KeepsBounds (s.deliverEntry k e) :=
  ((((updateEntry_bounds _ _ s).trans (deliverTo_bounds _ _ _ _)).trans (countDelivery_bounds e _)).trans
    (leaveGateOf_bounds e _)).trans (removeEntry_bounds _ _)

theorem missPocket_bounds (k : PocketNo) (d : Nat) (s : State) : s.KeepsBounds (s.missPocket k d) :=
  .ite (fun _ => (storePocket_bounds (Pocket.withdrawCounts_bounds k d _)).trans (faultPocket_bounds k _))
    fun _ => (withdraw_bounds k d s).trans (faultPocket_bounds k _)

theorem missEntry_bounds (k : PocketNo) (e : Entry) (s : State) : s.KeepsBounds (s.missEntry k e) :=
  ((((missPocket_bounds k _ s).trans (countInDoubt_bounds e _)).trans (leaveGateOf_bounds e _)).trans
    (removeEntry_bounds _ _)).trans (haltCause_bounds _ _)

/-! ## Expiries -/

theorem expireGateOn_bounds (seq : Nat) (s : State) : s.KeepsBounds (s.expireGateOn seq) := by
  unfold expireGateOn
  split
  · split
    · exact .ite (fun _ => (updateEntry_bounds _ _ s).trans (gateEnter_bounds _ _)) fun _ => .refl s
    · exact .refl s
  · exact .refl s

theorem expireGateOff_bounds (seq : Nat) (s : State) : s.KeepsBounds (s.expireGateOff seq) := by
  unfold expireGateOff
  split
  · split
    · exact .ite (fun _ => (updateEntry_bounds _ _ s).trans (gateLeave_bounds _ _)) fun _ => .refl s
    · exact .refl s
  · exact .refl s

theorem expireWindow_bounds (seq : Nat) (s : State) : s.KeepsBounds (s.expireWindow seq) := by
  unfold expireWindow
  split
  · split
    · exact .ite (fun _ => missEntry_bounds _ _ s) fun _ => .refl s
    · exact .refl s
  · exact .refl s

theorem expireReached_bounds (seq : Nat) (s : State) : s.KeepsBounds (s.expireReached seq) :=
  ((expireGateOn_bounds seq s).trans (expireGateOff_bounds seq _)).trans (expireWindow_bounds seq _)

/-! ## The stop -/

theorem convertEntry_bounds (s : State) (e : Entry) : s.KeepsBounds (s.convertEntry e) := by
  unfold convertEntry
  split
  · refine KeepsBounds.trans ?_ ((countInDoubt_bounds e _).trans (dropEntry_bounds _ _))
    split
    · exact withdraw_bounds _ _ s
    · exact .refl s
  · exact (bump_bounds _ s).trans (dropEntry_bounds _ _)

theorem convertInDoubt_bounds (s : State) : s.KeepsBounds s.convertInDoubt :=
  (((KeepsBounds.foldl convertEntry_bounds s.trk.queue s).trans (gatesOff_bounds _)).trans (release_bounds _ _)).trans
    (reportEmpty_bounds _)

theorem setLsv_bounds (l : LineSupervisor) (s : State) : s.KeepsBounds { s with lsv := l } := {}

theorem stopEvent_bounds (s : State) : s.KeepsBounds s.stopEvent :=
  .ite (fun _ => (setLsv_bounds _ s).trans (convertInDoubt_bounds _)) fun _ => setLsv_bounds _ s

end State
end Sys2Proof.Machine

/-! SUPPORT. The bounds under routing, identification, the end of an event and the inbound side of the link. -/

namespace Sys2Proof.Machine

/- One theorem at a time: many at once exhaust the threads. -/
set_option Elab.async false

/- One theorem at a time: many at once exhaust the threads. -/

namespace State

variable {s t u : State} {k : PocketNo}

/-! ## Routing -/

theorem placeEntry_bounds (seq : Nat) (dest : Destination) (face : Option Nat) (k : PocketNo) (s : State) :
    s.KeepsBounds (s.placeEntry seq dest face k) :=
  (updateEntry_bounds _ _ s).trans (expireReached_bounds seq _)

theorem commitReject_bounds (d : Nat) (s : State) : s.KeepsBounds (s.commitReject d) := by
  have room : s.KeepsBounds (if (s.pocket pocket1).hasRoom d then s
      else (s.faultPocket pocket1).haltCause .looseOverflow) :=
    .ite (fun _ => .refl s) fun _ => (faultPocket_bounds _ s).trans (haltCause_bounds _ _)
  exact room.trans (commit_bounds _ _ _)

theorem settleDestination_bounds (seq d : Nat) (face : Option Nat) (dest : Destination) (s : State) :
    s.KeepsBounds (s.settleDestination seq d face dest) := by
  have rejected (u : State) (r : RejectReason) :
      u.KeepsBounds ((u.commitReject d).placeEntry seq (.reject r) none pocket1) :=
    (commitReject_bounds d u).trans (placeEntry_bounds _ _ _ _ _)
  have placed (k : PocketNo) (face : Option Nat) : s.KeepsBounds ((s.commit k d).placeEntry seq dest face k) :=
    (commit_bounds k d s).trans (placeEntry_bounds _ _ _ _ _)
  unfold settleDestination
  split
  · exact rejected s _
  · split
    · exact placed pocket2 none
    · exact (haltCause_bounds _ s).trans (rejected _ _)
  · split
    · exact placed _ face
    · exact (blockClass_bounds _ s).trans (rejected _ _)

theorem recordHits_bounds (e : Entry) (n : NoteContents) (hits : List (Fin 32)) (s : State) :
    s.KeepsBounds (s.recordHits e n hits) := {}

theorem routeNote_bounds (seq : Nat) (e : Entry) (n : NoteContents) (s : State) : s.KeepsBounds (s.routeNote seq e n) :=
  .ite (fun _ => (recordHits_bounds e n _ s).trans (settleDestination_bounds _ _ _ _ _))
    fun _ => (recordHits_bounds e n _ s).trans (settleDestination_bounds _ _ _ _ _)

theorem route_bounds (seq : Nat) (s : State) : s.KeepsBounds (s.route seq) := by
  unfold route
  split
  · extract_lets u
    have counted : s.KeepsBounds u := .ite (fun _ => bump_bounds _ s) fun _ => .refl s
    clear_value u
    split
    · split
      · exact counted.trans (settleDestination_bounds _ _ _ _ _)
      · exact counted.trans (routeNote_bounds _ _ _ _)
    · exact counted.trans (settleDestination_bounds _ _ _ _ _)
    · exact counted
  · exact .refl s

theorem replan_bounds (seq : Nat) (s : State) : s.KeepsBounds (s.replan seq) := by
  unfold replan
  split
  · split
    · exact ((withdraw_bounds _ _ s).trans (commitReject_bounds _ _)).trans (placeEntry_bounds _ _ _ _ _)
    · exact .refl s
  · exact .refl s

/-! ## Identification -/

theorem assignEntry_bounds (seq : Nat) (s : State) : s.KeepsBounds (s.assignEntry seq) := by
  unfold assignEntry
  dsimp only
  split
  · exact (updateEntry_bounds _ _ s).trans (assign_bounds _ _)
  · exact updateEntry_bounds _ _ s

theorem resolveCard_bounds (seq : Nat) (card : CardField) (s : State) : s.KeepsBounds (s.resolveCard seq card) :=
  (((boundary_bounds card s).trans (swapTrigger_bounds _)).trans (writeOpeningGeneration_bounds _)).trans
    (updateEntry_bounds _ _ _)

theorem resolve_bounds (seq : Nat) (r : Resolution) (s : State) : s.KeepsBounds (s.resolve seq r) := by
  unfold resolve
  extract_lets u v
  have identified : s.KeepsBounds u := updateEntry_bounds _ _ s
  have assigned : u.KeepsBounds v := by
    clear_value u
    dsimp only [v]
    split
    · exact .ite (fun _ => resolveCard_bounds _ _ _) fun _ => assignEntry_bounds _ _
    · exact assignEntry_bounds _ _
  exact (identified.trans assigned).trans (route_bounds seq v)

theorem resolveUnidentified_bounds (seqs : List Nat) (s : State) : s.KeepsBounds (s.resolveUnidentified seqs) :=
  .foldl (fun s _ => .ite (fun _ => resolve_bounds _ _ s) fun _ => .refl s) seqs s

theorem expireDecision_bounds (seq : Nat) (s : State) : s.KeepsBounds (s.expireDecision seq) := by
  unfold expireDecision
  split
  · exact .ite (fun _ => (resolveUnidentified_bounds _ s).trans (resolveUnidentified_bounds _ _)) fun _ => .refl s
  · exact .refl s

theorem takeFrame_bounds (r : RawNote) (s : State) : s.KeepsBounds (s.takeFrame r) := by
  unfold takeFrame
  split
  · exact (resolveUnidentified_bounds _ s).trans (.ite (fun _ => resolve_bounds _ _ _) fun _ => .refl _)
  · exact .ite (fun _ => bump_bounds _ s) fun _ => bump_bounds _ s

/-! ## Creation of an entry -/

theorem armIdle_bounds (s : State) : s.KeepsBounds s.armIdle := .ite (fun _ => .refl s) fun _ => setLsv_bounds _ s

theorem tiePredecessor_bounds (e : Entry) (s : State) : s.KeepsBounds (s.tiePredecessor e) :=
  .ite (fun _ => (updateEntry_bounds _ _ s).trans (replan_bounds _ _)) fun _ => updateEntry_bounds _ _ s

/-- R7, R11: an entry is created only where the queue has room. -/
theorem createEntry_bounds (lead : Position) (h : s.trk.queue.length < 12) : s.KeepsBounds (s.createEntry lead) := by
  have joined (e : Entry) : s.KeepsBounds { s with trk := { s.trk with
      queue := s.trk.queue ++ [e], nextSeq := next16 s.trk.nextSeq } } :=
    { queue := fun _ => by simp; omega, nextSeq := fun _ => inRange_next16 _ }
  unfold createEntry
  extract_lets pred e trk t t' t''
  have full : s.KeepsBounds (t.holdWhile .transitFull (decide (10 ≤ t.trk.queue.length))) :=
    (joined e).trans (holdWhile_bounds _ _ t)
  have armed : s.KeepsBounds t' := full.trans (armIdle_bounds _)
  have tied : t'.KeepsBounds t'' := by
    clear_value t' pred
    cases pred with
    | some q => exact tiePredecessor_bounds q t'
    | none => exact .refl t'
  exact (armed.trans tied).trans (expireDecision_bounds _ _)

theorem settleObject_bounds (lead : Position) (s : State) : s.KeepsBounds (s.settleObject lead) := by
  unfold settleObject
  refine .ite (fun _ => bump_bounds _ s) fun _ => .ite (fun _ => bump_bounds _ s) fun _ =>
    .ite (fun _ => ?_) fun h => ?_
  · exact (bump_bounds _ s).trans (haltCause_bounds _ _)
  · exact createEntry_bounds lead (by omega)

/-! ## The end of an event -/

theorem emit_bounds (src : Source) (dest kind corr : Byte) (p : List Byte) (s : State) :
    s.KeepsBounds (s.emit src dest kind corr p) := {}

theorem placeReply_bounds (r : Reply) (s : State) : s.KeepsBounds (s.placeReply r) := by
  have taken : s.KeepsBounds { s with cmp := { s.cmp with replies := s.cmp.replies.tail } } :=
    { replies := fun h => by simp; omega }
  exact taken.trans (emit_bounds _ _ _ _ _ _)

theorem placeDeposit_bounds (c : Context) (s : State) : s.KeepsBounds (s.placeDeposit c) := by
  have freed (u : State) (l : List Nat) (f : Context → Bool) :
      u.KeepsBounds { u with dpu := { u.dpu with completion := l, contexts := u.dpu.contexts.filter f } } :=
    { contexts := (List.length_filter_le _ _).trans
      oneActive := (List.filter_sublist.filter _).length_le.trans }
  exact ((emit_bounds _ _ _ _ _ s).trans (freed _ _ _)).trans (release_bounds _ _)

theorem placeOrder_bounds (k : PocketNo) (o : StrapOrder) (s : State) : s.KeepsBounds (s.placeOrder k o) :=
  (emit_bounds _ _ _ _ _ s).trans (putPocket_bounds ⟨id, fun _ h => absurd rfl h, fun _ _ => rfl⟩)

theorem placeRecord_bounds (k : PocketNo) (r : BundleRecord) (s : State) : s.KeepsBounds (s.placeRecord k r) :=
  (emit_bounds _ _ _ _ _ s).trans (putPocket_bounds ⟨id, id, id⟩)

theorem setEvu_bounds (e : EventUnit) (s : State) : s.KeepsBounds { s with evu := e } := {}

theorem placeEvent_bounds (s : State) : s.KeepsBounds s.placeEvent :=
  (setEvu_bounds _ s).trans (emit_bounds _ _ _ _ _ _)

theorem placeForward_bounds (bytes : List Byte) (s : State) : s.KeepsBounds (s.placeForward bytes) := by
  unfold placeForward
  exact { forward := fun h => by simp; omega }

theorem choose_bounds (s : State) : s.KeepsBounds s.choose := by
  unfold choose
  split
  · exact placeReply_bounds _ s
  · split
    · exact placeDeposit_bounds _ s
    · split
      · exact placeOrder_bounds _ _ s
      · split
        · exact placeRecord_bounds _ _ s
        · split
          · exact placeEvent_bounds s
          · split
            · exact placeForward_bounds _ s
            · exact .refl s

theorem feedIdleTest_bounds (s : State) : s.KeepsBounds s.feedIdleTest :=
  .ite (fun _ => (setLsv_bounds _ s).trans (raise_bounds _ _)) fun _ => .refl s

theorem arbitrate_bounds (s : State) : s.KeepsBounds s.arbitrate := .ite (fun _ => .refl s) fun _ => choose_bounds s

theorem backlogTest_bounds (s : State) : s.KeepsBounds s.backlogTest :=
  .ite (fun _ => release_bounds _ s) fun _ => .ite (fun _ => hold_bounds _ s) fun _ => .refl s

theorem settle_bounds (s : State) : s.KeepsBounds s.settle :=
  ((((((heldBack_bounds s).trans (nearFullTest_bounds _)).trans (feedIdleTest_bounds _)).trans
    (arbitrate_bounds _)).trans (heldBack_bounds _)).trans (nearFullTest_bounds _)).trans (backlogTest_bounds _)

/-! ## The inbound side -/

theorem linkError_bounds (s : State) : s.KeepsBounds s.linkError := (bump_bounds _ s).trans (raise_bounds _ _)

theorem offerCommand_bounds (q : QueuedCommand) (s : State) : s.KeepsBounds (s.offerCommand q) := by
  refine .ite (fun h => ?_) fun _ => (bump_bounds _ s).trans (raise_bounds _ _)
  exact { commands := fun _ => by simp; omega }

theorem offerForward_bounds (bytes : List Byte) (s : State) : s.KeepsBounds (s.offerForward bytes) := by
  refine .ite (fun h => ?_) fun _ => (bump_bounds _ s).trans (raise_bounds _ _)
  exact { forward := fun _ => by simp; omega }

theorem admitNote_bounds (r : RawNote) (s : State) : s.KeepsBounds (s.admitNote r) := by
  have marked : s.KeepsBounds { s with idu := { s.idu with overrun := true } } := {}
  refine .ite (fun _ => bump_bounds _ s) fun _ => .ite (fun h => ?_) fun _ => ?_
  · exact { fifo := fun _ => by simp; omega }
  · exact ((marked.trans (bump_bounds _ _)).trans (hold_bounds _ _)).trans (raise_bounds _ _)

theorem handNote_bounds (src : Byte) (payload : List Byte) (s : State) : s.KeepsBounds (s.handNote src payload) :=
  .ite (fun _ => bump_bounds _ s) fun _ => .ite (fun _ => admitNote_bounds _ s) fun _ => bump_bounds _ s

/-- R83: a strap report matches only a STRAPPING pocket. -/
theorem strapping_of_strapMatch {src : Byte} {payload : List Byte} (h : s.strapMatch src payload = some k) :
    (s.pocket k).state = .strapping := by
  unfold strapMatch at h
  split at h
  · split at h
    · rename_i hm
      obtain rfl : _ = k := Option.some.inj h
      exact hm.2.1
    · cases h
  · cases h

theorem strapOk_bounds (h : (s.pocket k).state = .strapping) : s.KeepsBounds (s.strapOk k) := by
  have stopped (u : State) : u.KeepsBounds (u.putPocket k { u.pocket k with strapTimer := none }) :=
    putPocket_bounds ⟨id, id, fun _ h => absurd rfl h⟩
  have issued := (issueRecord_bounds k .strapped s).trans (stopped _)
  unfold strapOk
  refine .ite (fun _ => issued.trans (faultPocket_bounds k _)) fun _ => issued.trans (startBundle_bounds ?_)
  rw [putPocket_pocket_same, issueRecord_pocket_same]
  exact ⟨.inr (by simp [Pocket.issue, h]), .inl rfl⟩

theorem strapFailed_bounds (k : PocketNo) (s : State) : s.KeepsBounds (s.strapFailed k) :=
  ((issueRecord_bounds k .strapFailed s).trans (raise_bounds _ _)).trans (faultPocket_bounds k _)

theorem handStrap_bounds (src : Byte) (payload : List Byte) (s : State) : s.KeepsBounds (s.handStrap src payload) := by
  unfold handStrap
  split
  · rename_i k hk
    exact .ite (fun _ => strapOk_bounds (strapping_of_strapMatch hk)) fun _ => strapFailed_bounds k s
  · exact (bump_bounds _ s).trans (raise_bounds _ _)

theorem sortOwn_bounds (src kind corr : Byte) (payload : List Byte) (s : State) :
    s.KeepsBounds (s.sortOwn src kind corr payload) := by
  unfold sortOwn
  refine .ite (fun _ => linkError_bounds s) fun _ => .ite (fun _ => handNote_bounds _ _ s) fun _ => .ite (fun _ => ?_)
    fun _ => .ite (fun _ => linkError_bounds s) fun _ => offerCommand_bounds _ s
  exact .ite (fun _ => handStrap_bounds _ _ s) fun _ => linkError_bounds s

theorem sortBroadcast_bounds (whole : List Byte) (src kind corr : Byte) (payload : List Byte) (s : State) :
    s.KeepsBounds (s.sortBroadcast whole src kind corr payload) :=
  .ite (fun _ => (offerForward_bounds whole s).trans (offerCommand_bounds _ _)) fun _ => offerForward_bounds whole s

theorem sortFrame_bounds (got : List Byte) (s : State) : s.KeepsBounds (s.sortFrame got) := by
  unfold sortFrame
  exact .ite (fun _ => sortBroadcast_bounds _ _ _ _ _ s) fun _ => .ite (fun _ => sortOwn_bounds _ _ _ _ s)
    fun _ => offerForward_bounds _ s

theorem setReceiver_bounds (r : Receiver) (s : State) : s.KeepsBounds (s.setReceiver r) := {}

theorem receiveByte_bounds (s : State) (b : Byte) : s.KeepsBounds (s.receiveByte b) := by
  have hunting (u : State) : u.KeepsBounds (u.setReceiver .hunting) := setReceiver_bounds _ u
  have discarded := ((hunting s).trans (linkError_bounds _)).trans (settle_bounds _)
  unfold receiveByte
  split
  · exact .ite (fun _ => setReceiver_bounds _ s) fun _ => .refl s
  · exact .ite (fun _ => discarded) fun _ => .ite (fun _ => setReceiver_bounds _ s) fun _ =>
      .ite (fun _ => ((hunting s).trans (sortFrame_bounds _ _)).trans (settle_bounds _)) fun _ => discarded

end State
end Sys2Proof.Machine

/-! SUPPORT. The state after RESET: what each pocket holds, and that the invariants hold. -/

namespace Sys2Proof.Machine

/- One theorem at a time: many at once exhaust the threads. -/
set_option Elab.async false

/-! ## The state after RESET -/

section Reset

variable (straps : BitVec 6) (eye run : Bool) (arrival empty stack : BitVec 16) (s : State)

@[simp] theorem State.afterReset_pocket (k : PocketNo) : (s.afterReset straps eye run arrival empty stack).pocket k =
    Pocket.resetWith (setHas arrival k.val) (setHas empty k.val) (setHas stack k.val) := by
  simp [State.pocket, State.afterReset, pocketsAtReset]

/-- State.reset is what a RESET leaves with the straps at 7 and every input inactive (log entry 8). -/
theorem State.reset_eq_afterReset : State.reset = State.reset.afterReset 7 false false 0 0 0 := by decide +kernel

theorem State.afterReset_firstOrder : (s.afterReset straps eye run arrival empty stack).firstOrder = none := by
  simp [State.firstOrder, Pocket.resetWith, Pocket.afterReset]

theorem State.afterReset_firstRecord : (s.afterReset straps eye run arrival empty stack).firstRecord = none := by
  simp [State.firstRecord, Pocket.resetWith, Pocket.afterReset]

theorem State.afterReset_recordsWaiting : (s.afterReset straps eye run arrival empty stack).recordsWaiting = [] := by
  simp only [State.recordsWaiting, State.afterReset_firstOrder, State.afterReset_firstRecord]
  rfl

/-- After a reset every pocket is DISABLED and nothing waits for the transmit slot. -/
theorem State.afterReset_quiet : (s.afterReset straps eye run arrival empty stack).Quiet := by
  have held (r : FeedReason) (h : setHas (1 : BitVec 8) r.code = false) :
      (s.afterReset straps eye run arrival empty stack).held r = false := h
  refine ⟨fun k => ?_, ?_, rfl, fun _ => ?_, fun _ => held _ (by decide), fun h => absurd h Bool.false_ne_true⟩
  · simp [State.PocketQuiet, Pocket.resetWith, Pocket.afterReset]
  · rw [held .looseNearFull (by decide)]
    simp [Pocket.nearFull, Pocket.resetWith, Pocket.afterReset]
  · exact ⟨rfl, rfl, State.afterReset_firstOrder .., State.afterReset_firstRecord .., rfl, rfl⟩

/-- R156, R186, Tables 8-1 and 8-2: STANDBY with LINE_NOT_RUN held, and no event pending. -/
theorem State.afterReset_latches :
    (s.afterReset straps eye run arrival empty stack).AttnFollows
      ∧ (s.afterReset straps eye run arrival empty stack).LineHeld
      ∧ (s.afterReset straps eye run arrival empty stack).HaltLatched
      ∧ (s.afterReset straps eye run arrival empty stack).StandbyUntilSwap := by
  refine ⟨⟨by simp [State.afterReset, State.reset], by simp [State.afterReset, State.reset]⟩, ?_, ?_, ?_⟩
  · exact iff_of_true (show setHas (1 : BitVec 8) FeedReason.lineNotRun.code = true by decide) LineState.noConfusion
  · exact ⟨rfl, rfl, fun _ => rfl, fun _ h => nomatch h⟩
  · exact iff_of_true rfl rfl

theorem State.afterReset_inBounds :
    (s.afterReset straps eye run arrival empty stack).WithinCapacity
      ∧ (s.afterReset straps eye run arrival empty stack).OneActive
      ∧ (s.afterReset straps eye run arrival empty stack).GatesFollow
      ∧ (s.afterReset straps eye run arrival empty stack).PhaseBelow
      ∧ (s.afterReset straps eye run arrival empty stack).NumbersInRange
      ∧ (s.afterReset straps eye run arrival empty stack).OrdersInPlace := by
  refine ⟨?_, ?_, fun k => ?_, ?_, ?_, fun k => ?_⟩
  · simp [State.WithinCapacity, State.afterReset_pocket, Pocket.resetWith, Pocket.afterReset]
    simp [State.afterReset, State.reset]
  · simp [State.OneActive, State.afterReset, State.reset]
  · simp [State.gate, State.afterReset, State.reset]
  · simp [State.PhaseBelow, State.afterReset, State.reset, LineParameters.afterReset]
  · simp [State.NumbersInRange, State.afterReset, State.reset]
  · simp [Pocket.resetWith, Pocket.afterReset]

/-- No entry and no deposit: every account holds. -/
theorem State.afterReset_accounts : (s.afterReset straps eye run arrival empty stack).AccountsHold := by
  simp [State.AccountsHold, State.afterReset, State.reset]

end Reset
end Sys2Proof.Machine

/-! SUPPORT. The bounds under every command, and with them BoundsKept. -/

namespace Sys2Proof.Machine

/- One theorem at a time: many at once exhaust the threads. -/
set_option Elab.async false

/- One theorem at a time: many at once exhaust the threads. -/

namespace State

variable {s t u : State} {k : PocketNo}

/-! ## The take of a command -/

/-- What a command leaves keeps the bounds, and the queues of CMP as they are. -/
def ActsWithin (s : State) (r : State × Answer) : Prop := s.KeepsBounds r.1 ∧ r.1.cmp = s.cmp

theorem ActsWithin.ite {c : Prop} [Decidable c] {a b : State × Answer} (h : c → s.ActsWithin a)
    (g : ¬ c → s.ActsWithin b) : s.ActsWithin (if c then a else b) := by
  split
  · exact h ‹_›
  · exact g ‹_›

theorem refuse_within (s : State) (c : RefusalCode) : s.ActsWithin (s.refuse c) := ⟨.refl s, rfl⟩
theorem refuseCheck_within (s : State) (c : RefusalCode) (n : Nat) : s.ActsWithin (s.refuseCheck c n) := ⟨.refl s, rfl⟩
theorem carriedOut_within (h : s.KeepsBounds t) (hc : t.cmp = s.cmp := by simp) : s.ActsWithin t.carriedOut := ⟨h, hc⟩
theorem reportPage_within (s : State) (page : List Byte) : s.ActsWithin (s.reportPage page) := ⟨.refl s, rfl⟩

/-- R172, R174: a command is taken only where its reply has room. -/
theorem answer_bounds {q : QueuedCommand} (h : s.mayTake q = true) (a : Answer) : s.KeepsBounds (s.answer q a) := by
  unfold answer
  split
  · exact .refl s
  · rename_i hb
    have : s.cmp.replies.length < 4 := by simpa [mayTake, hb] using h
    exact { replies := fun _ => by simp; omega }

theorem takeCommand_bounds {act : Act} (h : ∀ (q : QueuedCommand) (s : State), s.ActsWithin (act q s)) (row : Instr)
    (s : State) : s.KeepsBounds (s.takeCommand row act) := by
  unfold takeCommand
  split
  · exact .refl s
  · rename_i q rest hq
    refine .ite (fun hd => ?_) fun _ => .refl s
    have taken : s.KeepsBounds { s with cmp := { s.cmp with commands := rest } } :=
      { commands := fun hs => by simp [hq] at hs ⊢; omega }
    obtain ⟨acted, hc⟩ := h q { s with cmp := { s.cmp with commands := rest } }
    refine ((taken.trans acted).trans (answer_bounds ?_ _)).trans (settle_bounds _)
    simpa [mayTake, hc] using hd.2

theorem needLength_within {act : Act} (n : Nat) (h : ∀ (q : QueuedCommand) (s : State), s.ActsWithin (act q s))
    (q : QueuedCommand) (s : State) : s.ActsWithin (needLength n act q s) := .ite (fun _ => h q s) fun _ => refuse_within s _

theorem onPocket_within {act : PocketNo → State → State × Answer} (h : ∀ (k : PocketNo) (s : State), s.ActsWithin (act k s))
    (q : QueuedCommand) (s : State) : s.ActsWithin (onPocket act q s) := by
  unfold onPocket
  split
  · exact h _ s
  · exact refuse_within s _

/-! ## Tables and parameters -/

theorem setShadow_bounds (b : Bank) (s : State) : s.KeepsBounds { s with tbs := { s.tbs with shadow := b } } := {}

theorem setSwapPending_bounds (b : Bool) (s : State) : s.KeepsBounds { s with tbs := { s.tbs with swapPending := b } } := {}

theorem loadTable_within (q : QueuedCommand) (s : State) : s.ActsWithin (actLoadTable q s) :=
  .ite (fun _ => refuse_within s _) fun _ => .ite (fun _ => refuse_within s _) fun _ => .ite (fun _ => refuse_within s _)
    fun _ => carriedOut_within (setShadow_bounds _ s)

theorem copy_within (q : QueuedCommand) (s : State) : s.ActsWithin (actCopy q s) :=
  .ite (fun _ => refuse_within s _) fun _ => .ite (fun _ => refuse_within s _)
    fun _ => carriedOut_within (setShadow_bounds _ s)

theorem commit_within (q : QueuedCommand) (s : State) : s.ActsWithin (actCommit q s) := by
  refine .ite (fun _ => refuse_within s _) fun _ => ?_
  split
  · exact refuseCheck_within s _ _
  · unfold commitTables
    split
    · exact carriedOut_within (swap_bounds s)
    · exact carriedOut_within (setSwapPending_bounds _ s)

theorem cancel_within (q : QueuedCommand) (s : State) : s.ActsWithin (actCancel q s) :=
  .ite (fun _ => carriedOut_within (setSwapPending_bounds _ s)) fun _ => refuse_within s _

/-- R136: a prescaler as it is read lies in 1 to 16. -/
theorem prescaler_parametersOf (p : List Byte) : InRange 16 (parametersOf p).prescaler := by
  unfold InRange parametersOf clamp
  dsimp only
  split
  · omega
  · split <;> omega

theorem bundleBase_parametersOf (p : List Byte) : (parametersOf p).bundleBase ≤ 4294967295 := by
  have (i : Nat) : (byteAt p i).toNat < 256 := (byteAt p i).isLt
  have h0 := this 16
  have h1 := this 17
  have h2 := this 18
  have h3 := this 19
  simp only [parametersOf, number32At, number16At]
  omega

theorem withoutOrders_bounds (s : State) : s.KeepsBounds { s with pkm := s.pkm.withoutOrders } where
  pockets k := by
    simp only [PocketMonitor.withoutOrders, Fin.getElem_fin, Vector.getElem_map]
    exact ⟨id, fun _ h => absurd rfl h, id⟩
  nextBundle := id

theorem setParameters_bounds {p : LineParameters} (hk : InRange 16 p.prescaler) (hb : p.bundleBase ≤ 4294967295)
    (s : State) : s.KeepsBounds (s.setParameters p) := by
  have orders : s.KeepsBounds { s with pkm := if p.strappingStation = none then s.pkm.withoutOrders else s.pkm } := by
    split
    · exact withoutOrders_bounds s
    · exact .refl s
  have base (u : State) : u.KeepsBounds { u with pkm := { u.pkm with
      nextBundle := if p.bundleBase = 0 then u.pkm.nextBundle else p.bundleBase } } :=
    { nextBundle := fun h => by unfold InRange at *; dsimp only; split <;> omega }
  have params (u : State) :
      u.KeepsBounds { u with trk := { u.trk with phase := 0 }, tbs := { u.tbs with params := p } } :=
    { phase := fun _ => ⟨hk.1, hk.2, hk.1⟩ }
  exact ((orders.trans (base _)).trans (params _)).trans (setLsv_bounds _ _)

theorem setLineParameters_within (q : QueuedCommand) (s : State) : s.ActsWithin (actSetLineParameters q s) := by
  refine .ite (fun _ => refuse_within s _) fun _ => ?_
  split
  · exact refuseCheck_within s _ _
  · exact carriedOut_within (setParameters_bounds (prescaler_parametersOf _) (bundleBase_parametersOf _) s) rfl

/-! ## Deposits -/

theorem declare_within (q : QueuedCommand) (s : State) : s.ActsWithin (actDeclare q s) := by
  unfold actDeclare
  refine .ite (fun _ => refuse_within s _) fun _ => .ite (fun _ => refuse_within s _) fun _ =>
    .ite (fun _ => refuse_within s _) fun _ => .ite (fun _ => refuse_within s _) fun _ =>
    .ite (fun _ => refuse_within s _) fun _ => .ite (fun _ => refuse_within s _) fun h => carriedOut_within ?_
  exact { declarations := fun _ => by simp; omega }

theorem withdraw_within (q : QueuedCommand) (s : State) : s.ActsWithin (actWithdraw q s) := by
  refine .ite (fun _ => carriedOut_within ?_) fun _ => refuse_within s _
  exact { declarations := (List.length_filter_le _ _).trans }

theorem forceDepositEnd_within (q : QueuedCommand) (s : State) : s.ActsWithin (actForceDepositEnd q s) :=
  .ite (fun _ => refuse_within s _) fun _ => carriedOut_within ((endActive_bounds .forced s).trans (swapTrigger_bounds _))

/-! ## The line -/

theorem enterRun_bounds (s : State) : s.KeepsBounds s.enterRun := (setLine_bounds .run s).trans (release_bounds _ _)

theorem run_within (q : QueuedCommand) (s : State) : s.ActsWithin (actRun q s) := by
  unfold actRun
  split
  · exact carriedOut_within (enterRun_bounds s) rfl
  · exact carriedOut_within (enterRun_bounds s) rfl
  · exact carriedOut_within (.refl s)
  all_goals exact refuse_within s _

theorem stopFeeding_bounds (s : State) : s.KeepsBounds s.stopFeeding :=
  .ite (fun _ => (hold_bounds _ s).trans (enterReady_bounds _)) fun _ => (hold_bounds _ s).trans (setLine_bounds .drain _)

theorem stopFeeding_cmp (s : State) : s.stopFeeding.cmp = s.cmp := by
  unfold stopFeeding
  dsimp only
  split <;> simp

theorem stop_within (q : QueuedCommand) (s : State) : s.ActsWithin (actStop q s) := by
  unfold actStop
  split
  · exact carriedOut_within (stopFeeding_bounds s) (stopFeeding_cmp s)
  · exact carriedOut_within (.refl s)
  · exact carriedOut_within (.refl s)
  all_goals exact refuse_within s _

theorem halt_within (q : QueuedCommand) (s : State) : s.ActsWithin (actHalt q s) :=
  .ite (fun _ => refuse_within s _) fun _ => carriedOut_within (haltCause_bounds _ s)

theorem resume_within (q : QueuedCommand) (s : State) : s.ActsWithin (actResume q s) := by
  refine .ite (fun _ => carriedOut_within ?_ (by simp [resume])) fun _ => refuse_within s _
  exact (setLsv_bounds _ s).trans (enterReady_bounds _)

theorem clearPocket_cmp (k : PocketNo) (s : State) : (s.clearPocket k).cmp = s.cmp := by
  have issued (u : State) : (u.issueCleared k).cmp = u.cmp := by
    unfold issueCleared
    dsimp only
    split <;> simp
  have settled (u : State) : (u.settleCleared k).cmp = u.cmp := by
    unfold settleCleared
    split <;> simp
  unfold clearPocket
  dsimp only
  split
  · rfl
  · split
    · simp [issued]
    · simp [issued, settled]

theorem lineClear_cmp (s : State) : s.lineClear.cmp = s.cmp := by
  have cleared (u : State) : u.clearPockets.cmp = u.cmp :=
    foldl_keeps (fun s => s.cmp) (fun s k => clearPocket_cmp k s) allPockets u
  simp [lineClear, cleared, abortDeposits]

theorem clear_within (q : QueuedCommand) (s : State) : s.ActsWithin (actClear q s) := by
  refine .ite (fun _ => carriedOut_within ?_ (lineClear_cmp s)) fun _ => refuse_within s _
  exact ((abortDeposits_bounds s).trans (clearPockets_bounds _)).trans (swapTrigger_bounds _)

theorem feedHoldSet_within (q : QueuedCommand) (s : State) : s.ActsWithin (actFeedHoldSet q s) :=
  carriedOut_within (hold_bounds _ s)

theorem feedHoldClear_within (q : QueuedCommand) (s : State) : s.ActsWithin (actFeedHoldClear q s) :=
  carriedOut_within (release_bounds _ s)

theorem intakeRestart_within (q : QueuedCommand) (s : State) : s.ActsWithin (actIntakeRestart q s) := by
  have restarted : s.KeepsBounds { s with idu := { s.idu with overrun := false } } := {}
  exact carriedOut_within (restarted.trans (release_bounds _ _))

/-! ## Pocket control -/

theorem movable_of_accepting (h : (s.pocket k).accepting = true) : (s.pocket k).Movable := by
  simp only [Pocket.accepting, decide_eq_true_eq] at h
  exact Pocket.movable_of_state (by grind) (by grind)

theorem inhibit_within (k : PocketNo) (s : State) : s.ActsWithin (actInhibit k s) :=
  .ite
    (fun h => carriedOut_within (putPocket_bounds (Pocket.SameSlots.keeps (.refl _) (.inr (movable_of_accepting h.2)))))
    fun _ => refuse_within s _

theorem release_within (k : PocketNo) (s : State) : s.ActsWithin (actRelease k s) := by
  refine .ite (fun h => carriedOut_within (reenterPocket_bounds ?_)) fun _ => refuse_within s _
  exact (Pocket.sameSlots_release _ k _).keeps (.inr (Pocket.movable_of_state (by simp [h]) (by simp [h])))

theorem closeShort_within (k : PocketNo) (s : State) : s.ActsWithin (actCloseShort k s) :=
  .ite (fun h => carriedOut_within (reenterPocket_bounds (Pocket.close_bounds (movable_of_accepting h.2))))
    fun _ => refuse_within s _

theorem clearFault_bounds (h : (s.pocket k).state = .fault) : s.KeepsBounds (s.clearFault k) := by
  have marked (u : State) : u.KeepsBounds (u.storePocket k { u.pocket k with unaccounted := false }) :=
    storePocket_bounds ⟨id, id, id⟩
  have discarded : s.KeepsBounds (if 0 < (s.pocket k).held then s.issueRecord k .discardedFault else s) :=
    .ite (fun _ => issueRecord_bounds k _ s) fun _ => .refl s
  refine (discarded.trans (marked _)).trans (startBundle_bounds ?_)
  rw [pocket_storePocket_same]
  have : (pocket (if 0 < (s.pocket k).held then s.issueRecord k .discardedFault else s) k).state = .fault := by
    split
    · simp [Pocket.issue, h]
    · exact h
  exact Pocket.movable_of_state (by simp [this]) (by simp [this])

theorem clearFault_cmp (k : PocketNo) (s : State) : (s.clearFault k).cmp = s.cmp := by
  unfold clearFault
  dsimp only
  split <;> simp

theorem clearUnaccounted_bounds (h : (s.pocket k).state = .unaccounted) : s.KeepsBounds (s.clearUnaccounted k) := by
  have free : Pocket.Movable { s.pocket k with unaccounted := false } :=
    Pocket.movable_of_state (by simp [h]) (by simp [h])
  have marked : (s.pocket k).KeepsBounds { s.pocket k with unaccounted := false } := ⟨id, id, id⟩
  unfold clearUnaccounted
  dsimp only
  split
  · exact reenterPocket_bounds (marked.trans (Pocket.takeAssignment_bounds free))
  · exact reenterPocket_bounds (marked.trans ((Pocket.sameSlots_enterOpen _).keeps (.inr free)))

theorem pocketClear_within (k : PocketNo) (s : State) : s.ActsWithin (actPocketClear k s) := by
  unfold actPocketClear
  refine .ite (fun _ => refuse_within s _) fun hs => .ite (fun _ => refuse_within s _) fun _ =>
    .ite (fun hf => ?_) fun hf => ?_
  · exact .ite (fun _ => refuse_within s _) fun _ => carriedOut_within (clearFault_bounds hf) (clearFault_cmp k s)
  · have : (s.pocket k).state = .unaccounted := by grind
    exact carriedOut_within (clearUnaccounted_bounds this) (by simp [clearUnaccounted])

/-! ## Reports -/

theorem enableSet_within (q : QueuedCommand) (s : State) : s.ActsWithin (actEnableSet q s) :=
  carriedOut_within (setEvu_bounds _ s)

theorem enableClear_within (q : QueuedCommand) (s : State) : s.ActsWithin (actEnableClear q s) :=
  carriedOut_within (setEvu_bounds _ s)

theorem eventClear_within (q : QueuedCommand) (s : State) : s.ActsWithin (actEventClear q s) :=
  carriedOut_within (setEvu_bounds _ s)

theorem countersClear_within (q : QueuedCommand) (s : State) : s.ActsWithin (actCountersClear q s) := by
  have cleared (r : RoutingEngine) (e : EventUnit) : s.KeepsBounds { s with rte := r, evu := e } := {}
  exact carriedOut_within (cleared _ _)

theorem queryPocket_within (q : QueuedCommand) (s : State) : s.ActsWithin (actQueryPocket q s) := by
  unfold actQueryPocket
  split
  · exact ⟨storePocket_bounds ⟨id, id, id⟩, rfl⟩
  · exact refuse_within s _

theorem codeRefusal_within (q : QueuedCommand) (s : State) : s.ActsWithin (actCodeRefusal q s) :=
  .ite (fun _ => refuse_within s _) fun _ => refuse_within s _

/-! ## The belt -/

theorem reset_bounds (straps : BitVec 6) (eye run : Bool) (arrival empty stack : BitVec 16) (s : State) :
    s.KeepsBounds (s.afterReset straps eye run arrival empty stack) := .of_inBounds (afterReset_inBounds ..)

theorem pulse_bounds (s : State) : s.KeepsBounds { s with trk := s.trk.pulse s.tbs.params.prescaler } := by
  unfold Tracker.pulse
  split
  · exact { phase := fun ⟨h1, h2, _⟩ => ⟨h1, h2, h1⟩ }
  · exact { phase := fun ⟨h1, h2, _⟩ => ⟨h1, h2, by dsimp only; omega⟩ }

theorem setEye_bounds (e : EntryEye) (s : State) : s.KeepsBounds { s with trk := { s.trk with eye := e } } := {}

theorem clearingEdge_bounds (s : State) : s.KeepsBounds s.clearingEdge := by
  have cleared : s.KeepsBounds s.clearEye := setEye_bounds .clear s
  unfold clearingEdge
  split
  · exact .refl s
  · exact (cleared.trans (bump_bounds _ _)).trans (settle_bounds _)
  · exact (cleared.trans (settleObject_bounds _ _)).trans (settle_bounds _)

theorem jam_bounds (s : State) : s.KeepsBounds s.jam := by
  unfold jam
  split
  · exact .ite (fun _ => ((setEye_bounds _ s).trans (haltCause_bounds _ _)).trans (settle_bounds _)) fun _ => .refl s
  all_goals exact .refl s

theorem decisionPoint_bounds (seq : Nat) (s : State) :
    s.KeepsBounds (if s.decisionDue seq then (s.expireDecision seq).settle else s) :=
  .ite (fun _ => (expireDecision_bounds seq s).trans (settle_bounds _)) fun _ => .refl s

theorem windowEnd_bounds (seq : Nat) (s : State) :
    s.KeepsBounds (if s.windowDue seq then (s.expireWindow seq).settle else s) :=
  .ite (fun _ => (expireWindow_bounds seq s).trans (settle_bounds _)) fun _ => .refl s

theorem idleMark_bounds (s : State) : s.KeepsBounds s.idleMarkReached := by
  unfold idleMarkReached
  split
  · exact .ite (fun _ => (setLsv_bounds _ s).trans (settle_bounds _)) fun _ => .refl s
  · exact .refl s

/-! ## Eyes, straps and RUNNING -/

theorem setArrivalEye_bounds (k : PocketNo) (level : Bool) (s : State) : s.KeepsBounds (s.setArrivalEye k level) :=
  storePocket_bounds ⟨id, id, id⟩

theorem arrive_bounds (k : PocketNo) (s : State) : s.KeepsBounds (s.arrive k) := by
  unfold arrive
  split
  · exact deliverEntry_bounds k _ s
  · exact (strayPocket_bounds k s).trans (haltCause_bounds _ _)

/-- R86: notes are taken only from a pocket whose bundle has not ended. -/
theorem notesTaken_bounds (h : (s.pocket k).Movable) : s.KeepsBounds (s.notesTaken k) := by
  unfold notesTaken
  refine .ite (fun _ => .refl s) fun _ => .ite (fun _ => faultPocket_bounds k s) fun _ =>
    .ite (fun _ => ?_) fun _ => .refl s
  refine .ite (fun _ => faultPocket_bounds k s) fun _ => putPocket_bounds ?_
  exact Pocket.SameSlots.keeps (.refl _) (.inr h)

theorem emptyEdgeActs_bounds (k : PocketNo) (active : Bool) (s : State) : s.KeepsBounds (s.emptyEdgeActs k active) := by
  have taken (h1 : (s.pocket k).state ≠ .complete) (h2 : (s.pocket k).state ≠ .strapping) :
      s.KeepsBounds (if active then s else s.notesTaken k) :=
    .ite (fun _ => .refl s) fun _ => notesTaken_bounds (Pocket.movable_of_state h1 h2)
  have faulted {c : Prop} [Decidable c] : s.KeepsBounds (if c then s.faultPocket k else s) :=
    .ite (fun _ => faultPocket_bounds k s) fun _ => .refl s
  unfold emptyEdgeActs
  split <;> rename_i h
  · exact putPocket_bounds ⟨id, id, id⟩
  · exact taken (by simp [h]) (by simp [h])
  · exact taken (by simp [h]) (by simp [h])
  · exact taken (by simp [h]) (by simp [h])
  · exact .ite (fun _ => .refl s) fun _ => faulted
  · exact .ite (fun _ => .refl s) fun _ => faulted
  all_goals exact .refl s

theorem emptyEyeEdge_bounds (k : PocketNo) (active : Bool) (s : State) :
    s.KeepsBounds ((s.noteEmptyEdge k active).emptyEdgeActs k active).settle := by
  have stored : s.KeepsBounds (s.storePocket k { s.pocket k with emptyEye := active, emptyDelta := true }) :=
    storePocket_bounds ⟨id, id, id⟩
  have noted : s.KeepsBounds (s.noteEmptyEdge k active) := stored.trans (raise_bounds _ _)
  exact (noted.trans (emptyEdgeActs_bounds k active _)).trans (settle_bounds _)

theorem stackEyeEdge_bounds (k : PocketNo) (active : Bool) (s : State) :
    s.KeepsBounds ((s.noteStackEdge k active).stackEdgeActs k).settle := by
  have stored : s.KeepsBounds (s.storePocket k { s.pocket k with stackEye := active, stackDelta := true }) :=
    storePocket_bounds ⟨id, id, id⟩
  have noted : s.KeepsBounds (s.noteStackEdge k active) := stored.trans (raise_bounds _ _)
  refine (noted.trans ?_).trans (settle_bounds _)
  exact .ite (fun _ => putPocket_bounds (Pocket.setLimit_bounds _)) fun _ => .refl _

theorem setRunning_bounds (level : Bool) (s : State) : s.KeepsBounds (s.setRunning level) := setLsv_bounds _ s

theorem runningFalls_bounds (s : State) : s.KeepsBounds s.runningFalls := by
  have stops : s.KeepsBounds s.transportStops := .ite (fun _ => .refl s) fun _ => haltCause_bounds _ s
  unfold runningFalls
  split
  · exact stops
  · exact stops
  · exact stopEvent_bounds s
  all_goals exact .refl s

theorem intakeTake_bounds (s : State) : s.KeepsBounds s.intakeTake := by
  unfold intakeTake
  split
  · rename_i r rest hf
    have taken : s.KeepsBounds { s with idu := { s.idu with fifo := rest } } :=
      { fifo := fun h => by simp [hf] at h ⊢; omega }
    exact (taken.trans (takeFrame_bounds r _)).trans (settle_bounds _)
  · exact .refl s

theorem strapTimer_bounds (k : PocketNo) (s : State) :
    s.KeepsBounds
      (if (s.pocket k).state = .strapping ∧ (s.pocket k).strapTimer ≠ none then (s.strapTimeout k).settle else s) :=
  .ite (fun _ => ((issueRecord_bounds k .strapTimeout s).trans (faultPocket_bounds k _)).trans (settle_bounds _))
    fun _ => .refl s

theorem emptySlot_bounds (s : State) : s.KeepsBounds s.emptySlot := {}

/-! ## Every step -/

/-- Each command of the block keeps the bounds: its meaning is a chain of operations that do. -/
theorem exec_bounds (i : Instr) (s : State) : ∃ t, exec i s = .next t ∧ s.KeepsBounds t :=
  match i with
  | .reset _ _ _ _ _ _ => ⟨_, rfl, reset_bounds _ _ _ _ _ _ s⟩
  | .encoderPulse => ⟨_, rfl, pulse_bounds s⟩
  | .entryEyeBlockingEdge => ⟨_, rfl, setEye_bounds _ s⟩
  | .entryEyeClearingEdge => ⟨_, rfl, clearingEdge_bounds s⟩
  | .jamMarkExpiry => ⟨_, rfl, jam_bounds s⟩
  | .decisionPointExpiry seq => ⟨_, rfl, decisionPoint_bounds seq s⟩
  | .gateOnExpiry seq => ⟨_, rfl, expireGateOn_bounds seq s⟩
  | .gateOffExpiry seq => ⟨_, rfl, expireGateOff_bounds seq s⟩
  | .windowEndExpiry seq => ⟨_, rfl, windowEnd_bounds seq s⟩
  | .idleMarkReached => ⟨_, rfl, idleMark_bounds s⟩
  | .arrival k => ⟨_, rfl, ((setArrivalEye_bounds k true s).trans (arrive_bounds k _)).trans (settle_bounds _)⟩
  | .arrivalEyeClearingEdge k => ⟨_, rfl, setArrivalEye_bounds k false s⟩
  | .emptyEyeEdge k active => ⟨_, rfl, emptyEyeEdge_bounds k active s⟩
  | .stackEyeEdge k active => ⟨_, rfl, stackEyeEdge_bounds k active s⟩
  | .runningFallingEdge => ⟨_, rfl, ((setRunning_bounds false s).trans (runningFalls_bounds _)).trans (settle_bounds _)⟩
  | .runningRisingEdge => ⟨_, rfl, (setRunning_bounds true s).trans (settle_bounds _)⟩
  | .stopEvent => ⟨_, rfl, .ite (fun _ => (stopEvent_bounds s).trans (settle_bounds _)) fun _ => .refl s⟩
  | .linkFrameReceived bytes => ⟨_, rfl, .foldl receiveByte_bounds bytes s⟩
  | .intakeTake => ⟨_, rfl, intakeTake_bounds s⟩
  | .strapTimerExpiry k => ⟨_, rfl, strapTimer_bounds k s⟩
  | .transmissionEnd => ⟨_, rfl, .ite (fun _ => (emptySlot_bounds s).trans (settle_bounds _)) fun _ => .refl s⟩
  | .loadTable => ⟨_, rfl, takeCommand_bounds loadTable_within _ s⟩
  | .copyActiveToShadow => ⟨_, rfl, takeCommand_bounds (needLength_within 0 copy_within) _ s⟩
  | .commitTables => ⟨_, rfl, takeCommand_bounds (needLength_within 0 commit_within) _ s⟩
  | .cancelCommit => ⟨_, rfl, takeCommand_bounds (needLength_within 0 cancel_within) _ s⟩
  | .setLineParameters => ⟨_, rfl, takeCommand_bounds (needLength_within 196 setLineParameters_within) _ s⟩
  | .declare => ⟨_, rfl, takeCommand_bounds declare_within _ s⟩
  | .withdraw => ⟨_, rfl, takeCommand_bounds (needLength_within 4 withdraw_within) _ s⟩
  | .lineControlRun => ⟨_, rfl, takeCommand_bounds run_within _ s⟩
  | .lineControlStop => ⟨_, rfl, takeCommand_bounds stop_within _ s⟩
  | .lineControlHalt => ⟨_, rfl, takeCommand_bounds halt_within _ s⟩
  | .lineControlResume => ⟨_, rfl, takeCommand_bounds resume_within _ s⟩
  | .lineControlClear => ⟨_, rfl, takeCommand_bounds clear_within _ s⟩
  | .unknownKind => ⟨_, rfl, takeCommand_bounds (fun _ s => refuse_within s _) _ s⟩
  | .forceDepositEnd => ⟨_, rfl, takeCommand_bounds (needLength_within 0 forceDepositEnd_within) _ s⟩
  | .pocketControlInhibit => ⟨_, rfl, takeCommand_bounds (onPocket_within inhibit_within) _ s⟩
  | .pocketControlRelease => ⟨_, rfl, takeCommand_bounds (onPocket_within release_within) _ s⟩
  | .pocketControlCloseShort => ⟨_, rfl, takeCommand_bounds (onPocket_within closeShort_within) _ s⟩
  | .pocketControlClear => ⟨_, rfl, takeCommand_bounds (onPocket_within pocketClear_within) _ s⟩
  | .feedHoldSet => ⟨_, rfl, takeCommand_bounds feedHoldSet_within _ s⟩
  | .feedHoldClear => ⟨_, rfl, takeCommand_bounds feedHoldClear_within _ s⟩
  | .intakeRestart => ⟨_, rfl, takeCommand_bounds (needLength_within 0 intakeRestart_within) _ s⟩
  | .eventEnableSet => ⟨_, rfl, takeCommand_bounds enableSet_within _ s⟩
  | .eventEnableClear => ⟨_, rfl, takeCommand_bounds enableClear_within _ s⟩
  | .eventClear => ⟨_, rfl, takeCommand_bounds (needLength_within 2 eventClear_within) _ s⟩
  | .countersClear => ⟨_, rfl, takeCommand_bounds (needLength_within 0 countersClear_within) _ s⟩
  | .statusQueryLine => ⟨_, rfl, takeCommand_bounds (fun _ s => reportPage_within s _) _ s⟩
  | .statusQueryPocket => ⟨_, rfl, takeCommand_bounds queryPocket_within _ s⟩
  | .statusQueryDeposits => ⟨_, rfl, takeCommand_bounds (fun _ s => reportPage_within s _) _ s⟩
  | .statusQueryTransit => ⟨_, rfl, takeCommand_bounds (fun _ s => reportPage_within s _) _ s⟩
  | .statusQueryCounters => ⟨_, rfl, takeCommand_bounds (fun _ s => reportPage_within s _) _ s⟩
  | .statusQueryWatch => ⟨_, rfl, takeCommand_bounds (fun _ s => reportPage_within s _) _ s⟩
  | .parameterCodeRefusal => ⟨_, rfl, takeCommand_bounds codeRefusal_within _ s⟩

theorem withPending_bounds (q : List Instr) (s : State) : s.KeepsBounds (s.withPending q) := {}

theorem step_bounds (h : step s = .next t) : s.KeepsBounds t := by
  unfold step at h
  split at h
  · obtain rfl : s = t := Host.Outcome.next.inj h
    exact .refl s
  · rename_i i rest _
    obtain ⟨u, hu, kept⟩ := exec_bounds i (s.withPending rest)
    obtain rfl : u = t := Host.Outcome.next.inj (hu.symm.trans h)
    exact (withPending_bounds rest s).trans kept

end State
end Sys2Proof.Machine

section
open Sys2Proof Sys2Proof.Machine

/-- Settles O7: every operation of the part keeps each bound (`State.KeepsBounds`), so every step, a chain of them, does. -/
theorem boundsKept : Obligations.BoundsKept := fun _ _ h => (State.step_bounds h).kept

end

/-! SUPPORT. The encoder, and the statements about the pulse and about RESET. -/

namespace Sys2Proof.Machine

/- One theorem at a time: many at once exhaust the threads. -/
set_option Elab.async false

/-! ## The encoder (R1) -/

theorem Tracker.pulse_of_last {k : Nat} {t : Tracker} (h : t.phase + 1 = k) :
    t.pulse k = { t with phase := 0, position := t.position + 1 } := if_pos h.ge

theorem Tracker.pulse_of_lt {k : Nat} {t : Tracker} (h : t.phase + 1 < k) : t.pulse k = { t with phase := t.phase + 1 } :=
  if_neg (by omega)

end Sys2Proof.Machine

section
open Sys2Proof Sys2Proof.Machine

/-- Settles O11: the phase lies below the prescaler, so a pulse either makes it the last count or leaves it below. -/
theorem encoderPulse : Obligations.EncoderPulse := by
  intro s ⟨_, _, hphase⟩
  change Host.Outcome.next { s with trk := s.trk.pulse s.tbs.params.prescaler } = _
  by_cases h : s.trk.phase + 1 = s.tbs.params.prescaler
  · rw [if_pos h, Tracker.pulse_of_last h]
  · rw [if_neg h, Tracker.pulse_of_lt (by omega)]

/-- Settles O3: each block of the state after RESET is a constant but for the levels of the inputs. -/
theorem resetLeaves : Obligations.ResetLeaves := by
  intro straps eye run arrival empty stack s
  exact ⟨_, rfl, rfl, rfl, rfl, rfl, rfl, rfl, rfl, rfl, rfl, rfl, rfl, rfl, rfl, rfl, rfl, rfl, rfl,
    State.afterReset_pocket straps eye run arrival empty stack s⟩

/-- Settles O4: `State.reset` is itself the state after a RESET, and the invariants hold after every RESET. -/
theorem invariantsAtReset : Obligations.InvariantsAtReset := by
  intro t ht
  obtain ⟨straps, eye, run, arrival, empty, stack, s, rfl⟩ :
      ∃ straps eye run arrival empty stack s, t = State.afterReset straps eye run arrival empty stack s := by
    obtain rfl | ⟨straps, eye, run, arrival, empty, stack, s, hs⟩ := ht
    · exact ⟨_, _, _, _, _, _, _, State.reset_eq_afterReset⟩
    · exact ⟨straps, eye, run, arrival, empty, stack, s, (Host.Outcome.next.inj hs).symm⟩
  obtain ⟨attn, held, halt, standby⟩ := State.afterReset_latches straps eye run arrival empty stack s
  obtain ⟨capacity, active, gates, phase, numbers, orders⟩ := State.afterReset_inBounds straps eye run arrival empty stack s
  exact ⟨State.afterReset_quiet .., attn, held, halt, standby, capacity, active, gates, phase, numbers, orders,
    State.afterReset_accounts ..⟩

end

/-! SUPPORT. The entry eye and the jam mark, and the statements about objects that get no entry. -/

namespace Sys2Proof.Machine

/- One theorem at a time: many at once exhaust the threads. -/
set_option Elab.async false

/-! ## A clearing edge of the entry eye, by the eye and by the object (Table 1-3) -/

section ClearingEdge

variable {s : State} {lead jam : Position}

/-- Storing the eye and counting an object leave nothing to be done at the end of the event. -/
theorem State.Quiet.counted (h : s.Quiet) (c : Counter) : (s.clearEye.bump c).settle = s.clearEye.bump c :=
  settle_of_quiet (s := s.clearEye.bump c) h

theorem clearingEdge_of_void (h : s.trk.eye = .void) : s.clearingEdge = (s.clearEye.bump .untrackedObjects).settle := by
  simp [State.clearingEdge, h]

theorem clearingEdge_of_blocked (h : s.trk.eye = .blocked lead jam) :
    s.clearingEdge = (s.clearEye.settleObject lead).settle := by
  simp [State.clearingEdge, h]

/-- R6: debris. -/
theorem settleObject_of_short (h : (s.trk.position - lead).toNat < s.tbs.params.minLength) :
    s.settleObject lead = s.bump .debris := if_pos h

/-- R6: an object that clears while the line does not track. -/
theorem settleObject_of_untracked (h : s.tbs.params.minLength ≤ (s.trk.position - lead).toNat)
    (hl : s.lsv.line = .standby ∨ s.lsv.line = .haltStopped) : s.settleObject lead = s.bump .untrackedObjects :=
  (if_neg (Nat.not_lt.mpr h)).trans (if_pos hl)

/-- R11: an object that finds the queue full. -/
theorem settleObject_of_full (h : s.tbs.params.minLength ≤ (s.trk.position - lead).toNat) (h1 : s.lsv.line ≠ .standby)
    (h2 : s.lsv.line ≠ .haltStopped) (hq : 12 ≤ s.trk.queue.length) :
    s.settleObject lead = (s.bump .untrackedObjects).haltCause .transitOverflow :=
  (if_neg (Nat.not_lt.mpr h)).trans ((if_neg (not_or.mpr ⟨h1, h2⟩)).trans (if_pos hq))

/-- R7: an object that gets an entry. -/
theorem settleObject_of_tracked (h : s.tbs.params.minLength ≤ (s.trk.position - lead).toNat) (h1 : s.lsv.line ≠ .standby)
    (h2 : s.lsv.line ≠ .haltStopped) (hq : s.trk.queue.length < 12) : s.settleObject lead = s.createEntry lead :=
  (if_neg (Nat.not_lt.mpr h)).trans ((if_neg (not_or.mpr ⟨h1, h2⟩)).trans (if_neg (Nat.not_le.mpr hq)))

end ClearingEdge

/-! ## The jam mark (R5) -/

theorem jam_of_reached {s : State} {lead mark : Position} (h : s.trk.eye = .blocked lead mark)
    (hr : (s.trk.position - mark).toNat < 32768) :
    s.jam = (State.haltCause .jamAtEntry { s with trk := { s.trk with eye := .void } }).settle := by
  have : reached s.trk.position mark = true := decide_eq_true hr
  simp [State.jam, h, this]

theorem jam_of_not_blocked {s : State} (h : s.trk.eye = .clear ∨ s.trk.eye = .void) : s.jam = s := by
  rcases h with h | h <;> simp [State.jam, h]

end Sys2Proof.Machine

section
open Sys2Proof Sys2Proof.Machine

/-- Settles O12: the edges that store a level, and the objects that are only counted, leave a quiet state. -/
theorem eyeEdges : Obligations.EyeEdges := by
  intro s hs
  refine ⟨rfl, fun _ => rfl, fun hv => ?_, fun lead jam hb => ⟨fun hm => ?_, fun hm hl => ?_⟩⟩
  · change Host.Outcome.next s.clearingEdge = _
    rw [clearingEdge_of_void hv, hs.counted]
    rfl
  · change Host.Outcome.next s.clearingEdge = _
    rw [clearingEdge_of_blocked hb, settleObject_of_short (s := s.clearEye) hm, hs.counted]
    rfl
  · change Host.Outcome.next s.clearingEdge = _
    rw [clearingEdge_of_blocked hb, settleObject_of_untracked (s := s.clearEye) hm hl, hs.counted]
    rfl

/-- Settles O13: each event is its own effect and then the end of the event, which `settle_steady` describes. -/
theorem overflowAndJam : Obligations.OverflowAndJam := by
  intro s
  refine ⟨fun lead jam hb hm h1 h2 hq => ⟨_, rfl, ?_⟩, fun lead jam hb hr => ⟨_, rfl, ?_⟩, fun hn => ?_⟩
  · rw [clearingEdge_of_blocked hb, settleObject_of_full (s := s.clearEye) hm h1 h2 hq]
    exact settle_steady _
  · rw [jam_of_reached hb hr]
    exact settle_steady _
  · exact congrArg Host.Outcome.next (jam_of_not_blocked hn)

end

/-! SUPPORT. The creation of a transit entry, and the statements about it. -/

namespace Sys2Proof.Machine

/- One theorem at a time: many at once exhaust the threads. -/
set_option Elab.async false

variable {s : State} {lead jam : Position} {q : Entry} {j seq : Nat}

/-! ## Reading an entry by its sequence -/

namespace State

theorem entry_of_trk {t : State} (h : t.trk = s.trk) (j : Nat) : t.entry j = s.entry j := by simp [entry, h]

theorem seq_of_entry {e : Entry} (h : s.entry j = some e) : e.seq = j := by
  simpa using List.find?_some h

/-- A change of the entry `seq` that keeps its sequence is not seen at another sequence. -/
theorem entry_updateEntry_other {f : Entry → Entry} (hf : ∀ e, (f e).seq = e.seq) (h : j ≠ seq) (s : State) :
    (s.updateEntry seq f).entry j = s.entry j := by
  unfold entry
  rw [updateEntry_trk_queue]
  induction s.trk.queue with
  | nil => rfl
  | cons a l ih =>
    rw [List.map_cons, List.find?_cons, List.find?_cons, ih]
    by_cases ha : a.seq = seq
    · have hn : (seq == j) = false := by simpa using h.symm
      simp [ha, hf, hn]
    · simp [ha]

theorem entry_dropEntry_other (h : j ≠ seq) (s : State) : (s.dropEntry seq).entry j = s.entry j := by
  unfold entry
  rw [dropEntry_trk_queue, List.find?_filter]
  congr 1
  funext e
  by_cases he : e.seq = j <;> simp [he, h]

theorem entry_removeEntry_other (h : j ≠ seq) (s : State) : (s.removeEntry seq).entry j = s.entry j := by
  have dropped := entry_dropEntry_other h s
  unfold removeEntry
  dsimp only
  split
  · exact (entry_of_trk (reportEmpty_keeps _).1 j).trans dropped
  · exact dropped

theorem entry_missEntry_other {e : Entry} (k : PocketNo) (h : j ≠ e.seq) (s : State) :
    (s.missEntry k e).entry j = s.entry j := by
  have counted : (((s.missPocket k e.depositKey).countInDoubt e).leaveGateOf e).trk = s.trk := by simp
  exact ((entry_of_trk (haltCause_keeps _ _).1 j).trans (entry_removeEntry_other h _)).trans (entry_of_trk counted j)

theorem entry_expireGateOn_other (h : j ≠ seq) (s : State) : (s.expireGateOn seq).entry j = s.entry j := by
  unfold expireGateOn
  split
  · split
    · split
      · exact (entry_of_trk (gateEnter_keeps _ _).1 j).trans (entry_updateEntry_other (by simp) h s)
      · rfl
    · rfl
  · rfl

theorem entry_expireGateOff_other (h : j ≠ seq) (s : State) : (s.expireGateOff seq).entry j = s.entry j := by
  unfold expireGateOff
  split
  · split
    · split
      · exact (entry_of_trk (gateLeave_keeps _ _).1 j).trans (entry_updateEntry_other (by simp) h s)
      · rfl
    · rfl
  · rfl

theorem entry_expireWindow_other (h : j ≠ seq) (s : State) : (s.expireWindow seq).entry j = s.entry j := by
  unfold expireWindow
  split
  · rename_i e he
    split
    · split
      · exact entry_missEntry_other _ (seq_of_entry he ▸ h) s
      · rfl
    · rfl
  · rfl

theorem entry_placeEntry_other (dest : Destination) (face : Option Nat) (k : PocketNo) (h : j ≠ seq) (s : State) :
    (s.placeEntry seq dest face k).entry j = s.entry j := by
  unfold placeEntry expireReached
  rw [entry_expireWindow_other h, entry_expireGateOff_other h, entry_expireGateOn_other h]
  exact entry_updateEntry_other (by simp [Entry.takePocket]) h s

/-- R54: re-planning the entry `seq` leaves the other entries alone. -/
theorem entry_replan_other (h : j ≠ seq) (s : State) : (s.replan seq).entry j = s.entry j := by
  unfold replan
  split
  · split
    · exact (entry_placeEntry_other _ _ _ h _).trans (entry_of_trk (by simp) j)
    · rfl
  · rfl

/-- R29: a decision point that still lies ahead does not expire. -/
theorem expireDecision_of_ahead (h : ∀ e, s.entry seq = some e → reached s.trk.position e.decision = false) :
    s.expireDecision seq = s := by
  unfold expireDecision
  split
  · rename_i e he
    simp [h e he]
  · rfl

/-! ## The new entry -/

/-- R10: TRANSIT_FULL by the length of the queue. -/
theorem holdWhile_transitFull (b : Bool) (s : State) : s.holdWhile .transitFull b =
    { s with lsv := { s.lsv with holds := if b then s.lsv.holds ||| 2#8 else s.lsv.holds &&& ~~~2#8 } } := by
  cases b <;> rfl

/-- R158: the feed-idle watch after a creation. -/
theorem armIdle_eq (s : State) : s.armIdle = { s with lsv := { s.lsv with
    idleMark := if s.tbs.params.feedIdle = 0 then s.lsv.idleMark else some (ahead s.trk.position s.tbs.params.feedIdle)
    idleReached := s.lsv.idleReached && decide (s.tbs.params.feedIdle = 0)
    idleRaised := s.lsv.idleRaised && decide (s.tbs.params.feedIdle = 0) } } := by
  unfold armIdle
  split <;> simp_all

theorem next16_eq (n : Nat) : next16 n = if n < 65535 then n + 1 else 1 := by
  unfold next16 nextWrapping
  split <;> split <;> omega

/-- R7, R8, R10, R158: the steps of a creation up to the tie, as one state. -/
theorem join_eq_withFreshEntry (e : Entry) (s : State) :
    (State.holdWhile .transitFull (decide (10 ≤ (s.trk.queue ++ [e]).length))
      { s.clearEye with trk := { s.clearEye.trk with
        queue := s.trk.queue ++ [e], nextSeq := next16 s.trk.nextSeq } }).armIdle = s.withFreshEntry e := by
  have length : 10 ≤ (s.trk.queue ++ [e]).length ↔ 9 ≤ s.trk.queue.length := by simp
  rw [holdWhile_transitFull, armIdle_eq, next16_eq]
  simp only [length, decide_eq_true_eq]
  rfl

theorem createEntry_of_untied (h : s.tiedPredecessor lead = none) :
    s.clearEye.createEntry lead = (s.withFreshEntry (s.freshEntry lead false)).expireDecision s.trk.nextSeq := by
  have hp : s.clearEye.tiedPredecessor lead = none := h
  rw [← join_eq_withFreshEntry]
  unfold createEntry
  rw [hp]
  rfl

theorem createEntry_of_tied (h : s.tiedPredecessor lead = some q) :
    s.clearEye.createEntry lead
      = ((s.withFreshEntry (s.freshEntry lead true)).tiePredecessor q).expireDecision s.trk.nextSeq := by
  have hp : s.clearEye.tiedPredecessor lead = some q := h
  rw [← join_eq_withFreshEntry]
  unfold createEntry
  rw [hp]
  rfl

/-- R8: no other entry of the queue carries the new entry's sequence. -/
theorem entry_withFreshEntry (h : ∀ e ∈ s.trk.queue, e.seq ≠ s.trk.nextSeq) (lead : Position) (tied : Bool) :
    (s.withFreshEntry (s.freshEntry lead tied)).entry s.trk.nextSeq = some (s.freshEntry lead tied) := by
  have none : s.trk.queue.find? (fun e => e.seq == s.trk.nextSeq) = none := by simpa using h
  simp [entry, withFreshEntry, none, freshEntry]

/-- R2: a position 32768 or more short of a mark has not reached it. -/
theorem reached_eq_false {a b : Position} (h : 32768 ≤ (a - b).toNat) : reached a b = false :=
  decide_eq_false (Nat.not_lt.mpr h)

/-- R17: the new entry's decision point lies ahead, whatever has become of the other entries. -/
theorem expireDecision_fresh {t : State} {tied : Bool} (h : s.GetsEntry lead jam)
    (he : t.entry s.trk.nextSeq = (s.withFreshEntry (s.freshEntry lead tied)).entry s.trk.nextSeq)
    (hp : t.trk.position = s.trk.position) : t.expireDecision s.trk.nextSeq = t := by
  obtain ⟨-, -, -, -, -, fresh, decision⟩ := h
  refine expireDecision_of_ahead fun e ht => ?_
  rw [he, entry_withFreshEntry fresh] at ht
  obtain rfl := Option.some.inj ht
  rw [hp]
  exact reached_eq_false decision

/-- R13: no tie where the newest entry lies the minimum gap or more ahead. -/
theorem tiedPredecessor_none (h : ∀ q, s.trk.queue.getLast? = some q → s.tbs.params.minGap ≤ (lead - q.trail).toNat) :
    s.tiedPredecessor lead = none := by
  unfold tiedPredecessor
  split
  · rename_i q hq
    exact if_neg (Nat.not_lt.mpr (h q hq))
  · rfl

theorem tiedPredecessor_some (hq : s.trk.queue.getLast? = some q) (h : (lead - q.trail).toNat < s.tbs.params.minGap) :
    s.tiedPredecessor lead = some q := by
  simp only [tiedPredecessor, hq]
  exact if_pos h

/-- R8: the next sequence is free in the queue. -/
theorem GetsEntry.seq_free (h : s.GetsEntry lead jam) : ∀ e ∈ s.trk.queue, e.seq ≠ s.trk.nextSeq := by
  obtain ⟨-, -, -, -, -, fresh, -⟩ := h
  exact fresh

/-- R14: a predecessor that is not ROUTED, or was TIED before, is only marked. -/
theorem tiePredecessor_of_settled (h : q.state ≠ .routed ∨ q.tied = true) (s : State) :
    s.tiePredecessor q = s.updateEntry q.seq (fun e => { e with tied := true }) := by
  refine if_neg ?_
  rintro ⟨hr, ht⟩
  rcases h with h | h
  · exact h hr
  · simp [ht] at h

/-- R14, R54: a ROUTED predecessor newly TIED is re-planned. -/
theorem tiePredecessor_of_routed (hr : q.state = .routed) (ht : q.tied = false) (s : State) :
    s.tiePredecessor q = (s.updateEntry q.seq (fun e => { e with tied := true })).replan q.seq := if_pos ⟨hr, ht⟩

/-! ## Nothing is left undone after a creation -/

theorem held_withFreshEntry {r : FeedReason} (h : r ≠ .transitFull) (e : Entry) (s : State) :
    (s.withFreshEntry e).held r = s.held r := by
  have bit : (2#8).getLsbD r.code = false := by revert h; cases r <;> decide
  have low : r.code < 8 := by cases r <;> decide
  simp only [held, setHas, withFreshEntry]
  split
  · rw [BitVec.getLsbD_or, bit, Bool.or_false]
  · rw [BitVec.getLsbD_and, BitVec.getLsbD_not, bit]
    simp [low]

theorem idleDue_withFreshEntry (e : Entry) (h : s.idleDue = false) : (s.withFreshEntry e).idleDue = false := by
  by_cases hf : s.tbs.params.feedIdle = 0
  · simpa [idleDue, activeAssigned, activeContext, withFreshEntry, hf] using h
  · simp [idleDue, withFreshEntry, hf]

theorem Quiet.withFreshEntry (h : s.Quiet) (e : Entry) : (s.withFreshEntry e).Quiet := by
  obtain ⟨pockets, near, idle, slot, backlog, heldUp⟩ := h
  refine ⟨pockets, ?_, idleDue_withFreshEntry e idle, slot, ?_, ?_⟩
  · rw [held_withFreshEntry (by decide)]; exact near
  · rw [held_withFreshEntry (by decide)]; exact backlog
  · rw [held_withFreshEntry (by decide)]; exact heldUp

theorem Quiet.updateEntry (h : s.Quiet) (seq : Nat) (f : Entry → Entry) : (s.updateEntry seq f).Quiet := h

/-- R6, R7: what a clearing edge does with an object that is to get an entry. -/
theorem clearingEdge_of_getsEntry (h : s.GetsEntry lead jam) : s.clearingEdge = (s.clearEye.createEntry lead).settle := by
  obtain ⟨eye, tracked, h1, h2, room, -, -⟩ := h
  rw [clearingEdge_of_blocked eye, settleObject_of_tracked (s := s.clearEye) tracked h1 h2 room]

end State
end Sys2Proof.Machine

section
open Sys2Proof Sys2Proof.Machine

/-- Settles O14: the creation leaves `withFreshEntry`, whose decision point lies ahead and which is quiet. -/
theorem entryCreated : Obligations.EntryCreated := by
  intro s lead jam hs hg hgap
  change Host.Outcome.next s.clearingEdge = _
  rw [State.clearingEdge_of_getsEntry hg, State.createEntry_of_untied (State.tiedPredecessor_none hgap),
    State.expireDecision_fresh hg rfl rfl, settle_of_quiet (hs.withFreshEntry _)]

/-- Settles O15: the tie touches the newest entry, whose sequence is not the new one's, so the new entry's decision point
still lies ahead; without re-planning the state is quiet, and with it `settle_steady` describes the end of the event. -/
theorem entryTied : Obligations.EntryTied := by
  rintro s lead jam q hs hg hq hgap u rfl
  have created := State.clearingEdge_of_getsEntry hg
  rw [State.createEntry_of_tied (State.tiedPredecessor_some hq hgap)] at created
  have other : s.trk.nextSeq ≠ q.seq := (State.GetsEntry.seq_free hg q (List.mem_of_getLast? hq)).symm
  have untouched := State.entry_updateEntry_other (f := fun e => { e with tied := true }) (by simp) other
    (s.withFreshEntry (s.freshEntry lead true))
  refine ⟨fun hn => ?_, fun hr ht => ⟨_, rfl, ?_⟩⟩
  · rw [State.tiePredecessor_of_settled hn, State.expireDecision_fresh hg untouched rfl] at created
    change Host.Outcome.next s.clearingEdge = _
    rw [created, settle_of_quiet ((hs.withFreshEntry _).updateEntry _ _)]
    rfl
  · rw [State.tiePredecessor_of_routed hr ht, State.expireDecision_fresh hg] at created
    · rw [created]
      exact settle_steady _
    · rw [State.entry_replan_other other, untouched]
    · simp
      rfl

end

/-! SUPPORT. Commands that leave a quiet state quiet, and the statement about the holds and the counters. -/

namespace Sys2Proof.Machine

/- One theorem at a time: many at once exhaust the threads. -/
set_option Elab.async false

variable {s u : State} {row : Instr} {act : Act} {q : QueuedCommand} {rest : List QueuedCommand} {a : Answer}

/-! ## Feed-hold reasons and quiet states -/

/-- A feed-hold reason whose flag neither R80 nor R170 watches. -/
def FeedReason.unwatched (r : FeedReason) : Prop := r ≠ .looseNearFull ∧ r ≠ .recordBacklog

namespace State

theorem held_hold_other {r x : FeedReason} (h : x ≠ r) (s : State) : (s.hold r).held x = s.held x := by
  have bit : (BitVec.twoPow 8 r.code).getLsbD x.code = false := by revert h; cases r <;> cases x <;> decide
  simp only [held, setHas, hold, setAdd, BitVec.getLsbD_or, bit, Bool.or_false]

theorem held_release_other {r x : FeedReason} (h : x ≠ r) (s : State) : (s.release r).held x = s.held x := by
  have bit : (~~~BitVec.twoPow 8 r.code).getLsbD x.code = true := by revert h; cases r <;> cases x <;> decide
  simp only [held, setHas, release, setDrop, BitVec.getLsbD_and, bit, Bool.and_true]

/-- Another feed-hold reason set leaves nothing to be done while it agrees on the two reasons that R80 and R170 watch. -/
theorem Quiet.withHolds (h : s.Quiet) {w : BitVec 8}
    (near : State.held { s with lsv := { s.lsv with holds := w } } .looseNearFull = s.held .looseNearFull)
    (backlog : State.held { s with lsv := { s.lsv with holds := w } } .recordBacklog = s.held .recordBacklog) :
    State.Quiet { s with lsv := { s.lsv with holds := w } } := by
  obtain ⟨pockets, full, idle, slot, waiting, heldUp⟩ := h
  exact ⟨pockets, near.trans full, idle, slot, fun e => backlog.trans (waiting e), fun e => backlog.trans (heldUp e)⟩

theorem Quiet.hold (h : s.Quiet) {r : FeedReason} (hr : r.unwatched) : (s.hold r).Quiet :=
  h.withHolds (held_hold_other hr.1.symm s) (held_hold_other hr.2.symm s)

theorem Quiet.release (h : s.Quiet) {r : FeedReason} (hr : r.unwatched) : (s.release r).Quiet :=
  h.withHolds (held_release_other hr.1.symm s) (held_release_other hr.2.symm s)

end State

/-! ## The take of a command that leaves a quiet state -/

/-- R174, R175: a command that turns `s` into the quiet state `u` is concluded by its reply, or as a broadcast without one. -/
theorem take_of_quiet (hd : s.Due row q rest) (ha : act q (s.taken rest) = (u.taken rest, a)) (hu : u.Quiet) :
    s.takeCommand row act = if q.broadcast then u.concludedQuietly rest else u.concluded q rest a := by
  have taken : (u.taken rest).Quiet := hu
  split
  · next hb => exact take_broadcast (u := u.taken rest) hd hb ha taken
  · next hb => exact take_addressed (u := u.taken rest) hd (by simpa using hb) ha rfl taken.calm

theorem needLength_of_nil {n : Nat} (h : q.payload.length = n) (s : State) : needLength n act q s = act q s := if_pos h

end Sys2Proof.Machine

section
open Sys2Proof Sys2Proof.Machine

/-- Settles O53: each command leaves a quiet state quiet, so its take is the command's own effect and its conclusion. -/
theorem holdsAndCounters : Obligations.HoldsAndCounters := by
  intro s q rest u hs
  refine ⟨fun hd hu => ?_, fun hd hu => ?_, fun hd hb hp hu => ?_, fun hd hb hp hu => ?_⟩ <;> subst hu
  · exact congrArg Host.Outcome.next
      (take_of_quiet (act := actFeedHoldSet) hd rfl (hs.hold (r := .operator) ⟨nofun, nofun⟩))
  · exact congrArg Host.Outcome.next
      (take_of_quiet (act := actFeedHoldClear) hd rfl (hs.release (r := .operator) ⟨nofun, nofun⟩))
  · have restarted : State.Quiet (State.release .intakeOverrun { s with idu := { s.idu with overrun := false } }) :=
      State.Quiet.release (s := { s with idu := { s.idu with overrun := false } }) hs ⟨nofun, nofun⟩
    have take := take_of_quiet (act := needLength 0 actIntakeRestart) hd (needLength_of_nil (by simp [hp]) _) restarted
    exact congrArg Host.Outcome.next (take.trans (if_neg (by simp [hb])))
  · have cleared : State.Quiet { s with
        evu := { s.evu with counters := Vector.replicate 13 0 }
        rte := { hits := Vector.replicate 32 0, lastHit := none } } := hs
    have take := take_of_quiet (act := needLength 0 actCountersClear) hd (needLength_of_nil (by simp [hp]) _) cleared
    exact congrArg Host.Outcome.next (take.trans (if_neg (by simp [hb])))

end

/-! SUPPORT. A whole frame as the receiver takes it, byte by byte, and the statement about note frames. -/

namespace Sys2Proof.Machine

/- One theorem at a time: many at once exhaust the threads. -/
set_option Elab.async false

variable {s : State} {dest src kind corr len b : Byte} {got payload : List Byte}

/-! ## The receiver (R161) -/

namespace State

theorem setReceiver_of_eq {r : Receiver} (h : s.lnk.receiver = r) : s.setReceiver r = s := by
  subst h; rfl

/-- A byte before the last of a frame with an admissible LENGTH is collected. -/
theorem receiveByte_collects (h5 : 5 ≤ len.toNat) (h249 : len.toNat ≤ 249) (hlt : got.length < len.toNat) (s : State) :
    (s.setReceiver (.collecting (len :: got))).receiveByte b = s.setReceiver (.collecting (len :: (got ++ [b]))) := by
  have range : ¬ (len.toNat < 5 ∨ 249 < len.toNat) := by omega
  simp [receiveByte, count8At, byteAt, range, hlt]
  rfl

theorem receive_collects (h5 : 5 ≤ len.toNat) (h249 : len.toNat ≤ 249) (bytes : List Byte)
    (hlt : got.length + bytes.length ≤ len.toNat) (s : State) :
    bytes.foldl receiveByte (s.setReceiver (.collecting (len :: got)))
      = s.setReceiver (.collecting (len :: (got ++ bytes))) := by
  induction bytes generalizing got with
  | nil => simp
  | cons b bytes ih =>
    rw [List.length_cons] at hlt
    rw [List.foldl_cons, receiveByte_collects h5 h249 (by omega), ih (by simp; omega)]
    simp

/-- The last byte of a frame whose CHECK agrees hands the frame on. -/
theorem receiveByte_completes (h5 : 5 ≤ len.toNat) (h249 : len.toNat ≤ 249) (hlen : got.length = len.toNat)
    (hc : checkEqual (len :: (got ++ [b])) = true) (s : State) :
    (s.setReceiver (.collecting (len :: got))).receiveByte b
      = ((s.setReceiver .hunting).sortFrame (len :: (got ++ [b]))).settle := by
  have range : ¬ (len.toNat < 5 ∨ 249 < len.toNat) := by omega
  simp [receiveByte, count8At, byteAt, range, hlen, hc]
  rfl

/-- R162: the check of a frame as it is sent. -/
theorem checkEqual_of_sent {covered : List Byte} (h : len.toNat = covered.length + 1) :
    checkEqual (len :: (covered ++ bytes16 (crc covered))) = true := by
  simp [checkEqual, count8At, byteAt, h]

theorem receiveByte_sync (hr : s.lnk.receiver = .hunting) : s.receiveByte syncByte = s.setReceiver (.collecting []) := by
  simp [receiveByte, hr]

theorem receiveByte_length (h5 : 5 ≤ len.toNat) (h249 : len.toNat ≤ 249) (s : State) :
    (s.setReceiver (.collecting [])).receiveByte len = s.setReceiver (.collecting [len]) := by
  have range : ¬ (len.toNat < 5 ∨ 249 < len.toNat) := by omega
  simp [receiveByte, count8At, byteAt, range]
  rfl

/-- R161: a whole frame is collected and, as its check agrees, sorted. -/
theorem receive_sent (hr : s.lnk.receiver = .hunting) {covered : List Byte} (h : len.toNat = covered.length + 1)
    (h5 : 5 ≤ len.toNat) (h249 : len.toNat ≤ 249) :
    (syncByte :: len :: (covered ++ bytes16 (crc covered))).foldl receiveByte s
      = (s.sortFrame (len :: (covered ++ bytes16 (crc covered)))).settle := by
  obtain ⟨hi, lo, check⟩ : ∃ hi lo, bytes16 (crc covered) = [hi, lo] := ⟨_, _, rfl⟩
  have whole : covered ++ [hi, lo] = [] ++ (covered ++ [hi]) ++ [lo] := by simp
  have agrees : checkEqual (len :: ([] ++ (covered ++ [hi]) ++ [lo])) = true := by
    rw [← whole, ← check]; exact checkEqual_of_sent h
  rw [check, List.foldl_cons, List.foldl_cons, receiveByte_sync hr, receiveByte_length h5 h249, whole, List.foldl_append,
    List.nil_append, receive_collects h5 h249 _ (by simp [h]), List.foldl_cons, List.foldl_nil,
    receiveByte_completes h5 h249 (by simp [h]) agrees, setReceiver_of_eq hr]
  rfl

/-- R164: a frame that is addressed to the part is sorted by its own fields. -/
theorem sortFrame_own (hs : s.lnk.station = some dest.toNat) (hd : dest ≠ 255) (hlen : len.toNat = payload.length + 5)
    (check : BitVec 16) :
    s.sortFrame (len :: (dest :: src :: kind :: corr :: payload ++ bytes16 check)) = s.sortOwn src kind corr payload := by
  have fields : ((len :: (dest :: src :: kind :: corr :: payload ++ bytes16 check)).drop 5).take (len.toNat - 5) = payload := by
    simp [hlen]
  have other : dest ≠ broadcastStation := hd
  unfold sortFrame
  simp only [count8At, byteAt, List.getD_cons_zero, List.getD_cons_succ, List.cons_append, hs, other, if_true, if_false] at fields ⊢
  rw [fields]

/-- R161, R164: a whole frame for the part comes in as it was sent. -/
theorem receive_own {own : Byte} (h : s.HearsFrom own src payload) (kind corr : Byte) :
    exec (.linkFrameReceived (frameBytes own src kind corr payload)) s = .next (s.sortOwn src kind corr payload).settle := by
  obtain ⟨hunting, station, hown, -, -, hp⟩ := h
  have len : (BitVec.ofNat 8 (payload.length + 5)).toNat = payload.length + 5 := by
    rw [BitVec.toNat_ofNat]; omega
  have received := receive_sent (len := BitVec.ofNat 8 (payload.length + 5)) hunting
    (covered := own :: src :: kind :: corr :: payload) (by simp [len]) (by omega) (by omega)
  exact congrArg Host.Outcome.next (received.trans (congrArg settle (sortFrame_own station hown len _)))

/-! ## A NOTE frame for the part (R20, R21) -/

theorem sortOwn_note {own : Byte} (h : s.HearsFrom own src payload) : s.sortOwn src 0x01 corr payload = s.handNote src payload := by
  obtain ⟨-, station, -, broadcast, self, -⟩ := h
  have other : ¬ (src = broadcastStation ∨ s.lnk.station = some src.toNat) := by
    rw [station, Option.some_inj, BitVec.toNat_inj]
    exact not_or.mpr ⟨broadcast, self.symm⟩
  unfold sortOwn
  rw [if_neg other, if_pos rfl]

theorem handNote_foreign (h : s.tbs.params.inspectionStation ≠ some src.toNat) :
    s.handNote src payload = s.bump .foreignNoteFrames := if_pos h

theorem handNote_malformed (h : s.tbs.params.inspectionStation = some src.toNat) (hl : noteLengthOk payload = false) :
    s.handNote src payload = s.bump .phantomFrames := by
  simp [handNote, h, hl]

theorem handNote_wellFormed (h : s.tbs.params.inspectionStation = some src.toNat) (hl : noteLengthOk payload = true) :
    s.handNote src payload = s.admitNote (rawNoteOf payload) := by
  simp [handNote, h, hl]

theorem admitNote_overrun (h : s.idu.overrun = true) (r : RawNote) : s.admitNote r = s.bump .intakeFramesLost := if_pos h

theorem admitNote_room (h : s.idu.overrun = false) (hl : s.idu.fifo.length < 8) (r : RawNote) :
    s.admitNote r = { s with idu := { s.idu with fifo := s.idu.fifo ++ [r] } } := by
  simp [admitNote, h, hl]

theorem admitNote_full (h : s.idu.overrun = false) (hl : 8 ≤ s.idu.fifo.length) (r : RawNote) :
    s.admitNote r = State.raise .intakeOverrun (State.hold .intakeOverrun
      (State.bump .intakeFramesLost { s with idu := { s.idu with overrun := true } })) := by
  simp [admitNote, h, Nat.not_lt.mpr hl]

end State

theorem noteLengthOk_iff (p : List Byte) : noteLengthOk p = true ↔
    14 ≤ p.length ∧ (p.getD 13 0).toNat ≤ 12 ∧ p.length = 14 + (p.getD 13 0).toNat := by
  simp [noteLengthOk, count8At, byteAt, and_assoc]

end Sys2Proof.Machine

section
open Sys2Proof Sys2Proof.Machine

/-- Settles O36: the frame is received and handed over whole; every outcome but the overrun leaves a quiet state, and of the
overrun `settle_steady` says what the end of the event leaves alone. -/
theorem noteFrames : Obligations.NoteFrames := by
  rintro s own src corr payload lengthOk hs hears hlen run rfl
  rw [State.receive_own hears, State.sortOwn_note hears]
  have counted (c : Counter) : (s.bump c).settle = s.bump c := settle_of_quiet (s := s.bump c) hs
  rw [← noteLengthOk_iff] at hlen
  refine ⟨fun hi => ?_, fun hi => ⟨fun hl => ?_, fun hl ho => ?_, fun hl ho hroom => ?_, fun hl ho hfull => ⟨_, rfl, ?_⟩⟩⟩
  · rw [State.handNote_foreign hi, counted]
  · rw [State.handNote_malformed hi (by simpa [hlen] using hl), counted]
  · rw [State.handNote_wellFormed hi (hlen.mp hl), State.admitNote_overrun ho, counted]
  · rw [State.handNote_wellFormed hi (hlen.mp hl), State.admitNote_room ho hroom, settle_of_quiet]
    exact hs
  · rw [State.handNote_wellFormed hi (hlen.mp hl), State.admitNote_full ho hfull]
    exact settle_steady _

end

/-! SUPPORT. What an entry's resolution and its rejection leave, and the statement about the decision point. -/

namespace Sys2Proof.Machine

/- One theorem at a time: many at once exhaust the threads. -/
set_option Elab.async false

variable {s t : State} {seq d : Nat} {e : Entry} {g : Geometry} {j k : PocketNo}

/-! ## Commitments to pocket 1 -/

@[simp] theorem Pocket.addContribution_committed (k : PocketNo) (d : Nat) (p : Pocket) :
    (p.addContribution k d).committed = p.committed := by
  unfold Pocket.addContribution
  repeat' split
  all_goals rfl

@[simp] theorem Pocket.commit_committed (k : PocketNo) (d next : Nat) (p : Pocket) :
    (p.commit k d next).committed = p.committed + 1 := by
  unfold Pocket.commit
  dsimp only
  split <;> simp

namespace State

theorem pocket_putPocket_other (h : j ≠ k) (p : Pocket) (s : State) : (s.putPocket k p).pocket j = s.pocket j := by
  unfold putPocket
  split <;> simp [pocket_storePocket_other h]

theorem pocket_faultPocket_other (h : j ≠ k) (s : State) : (s.faultPocket k).pocket j = s.pocket j := by
  unfold faultPocket
  split
  · rfl
  · exact pocket_putPocket_other h _ s

theorem faultPocket_committed (k j : PocketNo) (s : State) :
    ((s.faultPocket k).pocket j).committed = (s.pocket j).committed := by
  by_cases h : j = k
  · subst h
    unfold faultPocket
    split <;> simp
  · rw [pocket_faultPocket_other h]

@[simp] theorem pocket_haltCause (k : PocketNo) (c : HaltCause) (s : State) : (s.haltCause c).pocket k = s.pocket k := by
  simp [pocket]

theorem pocket_commit_other (h : j ≠ k) (d : Nat) (s : State) : (s.commit k d).pocket j = s.pocket j := by
  unfold commit
  rw [pocket_putPocket_other h]
  dsimp only
  split
  · exact pocket_faultPocket_other h s
  · rfl

theorem commit_committed (k : PocketNo) (d : Nat) (s : State) :
    ((s.commit k d).pocket k).committed = (s.pocket k).committed + 1 := by
  unfold commit
  dsimp only
  rw [putPocket_pocket_same, Pocket.commit_committed]
  split
  · rw [faultPocket_committed]
  · rfl

/-- R51: a rejected note is committed to pocket 1 whatever its room. -/
theorem commitReject_committed (d : Nat) (s : State) :
    ((s.commitReject d).pocket pocket1).committed = (s.pocket pocket1).committed + 1 := by
  unfold commitReject
  dsimp only
  rw [commit_committed]
  split
  · rfl
  · rw [pocket_haltCause, faultPocket_committed]

theorem pocket_commitReject_other (h : j ≠ pocket1) (d : Nat) (s : State) : (s.commitReject d).pocket j = s.pocket j := by
  unfold commitReject
  dsimp only
  rw [pocket_commit_other h]
  split
  · rfl
  · rw [pocket_haltCause, pocket_faultPocket_other h]

/-! ## An entry that takes pocket 1 -/

/-- A change of the entry `seq` that keeps its sequence, read at that sequence. -/
theorem entry_updateEntry_same {f : Entry → Entry} (hf : ∀ e, (f e).seq = e.seq) (he : s.entry seq = some e) :
    (s.updateEntry seq f).entry seq = some (f e) := by
  have found : (fun x : Entry => x.seq == seq) ∘ (fun x => if x.seq = seq then f x else x) = fun x => x.seq == seq := by
    funext x
    simp only [Function.comp]
    split <;> simp [hf]
  have own : e.seq = seq := seq_of_entry he
  unfold entry at he ⊢
  rw [updateEntry_trk_queue, List.find?_map, found, he]
  simp [own]

/-- R66: a window that still lies ahead does not end. -/
theorem expireWindow_of_ahead (he : s.entry seq = some e)
    (h : ∀ m, e.windowEnd = some m → reached s.trk.position (m + 1) = false) : s.expireWindow seq = s := by
  unfold expireWindow
  rw [he]
  dsimp only
  split
  · next m k hm hk =>
    refine if_neg ?_
    rintro ⟨-, hr⟩
    exact Bool.false_ne_true ((h m hm).symm.trans hr)
  · rfl

/-- R15 to R17: the marks of an entry that takes pocket 1 are its arrival window, whose end still lies ahead. -/
theorem placeEntry_reject (he : s.entry seq = some e) (hg : s.tbs.params.geometry[pocket1] = some g)
    (hw : s.windowAhead g e.lead) (r : RejectReason) :
    s.placeEntry seq (.reject r) none pocket1 = s.updateEntry seq (Entry.toRejects g r) := by
  have marks : s.placeEntry seq (.reject r) none pocket1
      = (s.updateEntry seq (Entry.toRejects g r)).expireReached seq := by
    unfold placeEntry; rw [hg]; rfl
  have taken := entry_updateEntry_same (f := Entry.toRejects g r) (fun _ => rfl) he
  have gateOn : (s.updateEntry seq (Entry.toRejects g r)).expireGateOn seq = s.updateEntry seq (Entry.toRejects g r) := by
    unfold expireGateOn; rw [taken]; rfl
  have gateOff : (s.updateEntry seq (Entry.toRejects g r)).expireGateOff seq = s.updateEntry seq (Entry.toRejects g r) := by
    unfold expireGateOff; rw [taken]; rfl
  rw [marks, expireReached, gateOn, gateOff]
  refine expireWindow_of_ahead taken fun m hm => ?_
  obtain rfl : e.lead + BitVec.ofNat 16 (g.p + g.w) = m := Option.some.inj hm
  exact reached_eq_false hw

/-- R37, R51: a REJECT destination, with the window at pocket 1 still ahead. -/
theorem settleDestination_reject (he : s.entry seq = some e) (hg : s.tbs.params.geometry[pocket1] = some g)
    (hw : s.windowAhead g e.lead) (d : Nat) (face : Option Nat) (r : RejectReason) :
    s.settleDestination seq d face (.reject r) = s.rejected seq d g r := by
  have trk : (s.commitReject d).trk = s.trk := by simp
  have committed : (s.commitReject d).entry seq = some e := (entry_of_trk trk seq).trans he
  have ahead : (s.commitReject d).windowAhead g e.lead := by unfold windowAhead; rw [trk]; exact hw
  change (s.commitReject d).placeEntry seq (.reject r) none pocket1 = _
  rw [placeEntry_reject committed (by simpa using hg) ahead]
  unfold updateEntry rejected
  rw [trk]

theorem rejected_pkm (seq d : Nat) (g : Geometry) (r : RejectReason) (s : State) :
    (s.rejected seq d g r).pkm = (s.commitReject d).pkm := by
  simp only [rejected]

@[simp] theorem pocket_rejected (k : PocketNo) (seq d : Nat) (g : Geometry) (r : RejectReason) (s : State) :
    (s.rejected seq d g r).pocket k = (s.commitReject d).pocket k := by
  unfold pocket; rw [rejected_pkm]

@[simp] theorem rejected_trk (seq d : Nat) (g : Geometry) (r : RejectReason) (s : State) : (s.rejected seq d g r).trk
    = { s.trk with queue := s.trk.queue.map (fun x => if x.seq = seq then x.toRejects g r else x) } := rfl

@[simp] theorem rejected_keeps (seq d : Nat) (g : Geometry) (r : RejectReason) (s : State) :
    (s.rejected seq d g r).idu = s.idu ∧ (s.rejected seq d g r).rte = s.rte ∧ (s.rejected seq d g r).gdr = s.gdr
      ∧ (s.rejected seq d g r).dpu = s.dpu ∧ (s.rejected seq d g r).tbs = s.tbs ∧ (s.rejected seq d g r).lnk = s.lnk
      ∧ (s.rejected seq d g r).cmp = s.cmp ∧ (s.rejected seq d g r).pending = s.pending
      ∧ (s.rejected seq d g r).evu.enable = s.evu.enable ∧ (s.rejected seq d g r).evu.counters = s.evu.counters := by
  unfold rejected; simp

/-! ## The resolution of an entry (R29, R30) -/

/-- R30, R111: what the assignment of the entry `seq` writes into the queue and into the deposit contexts. -/
theorem assignEntry_eq (seq : Nat) (s : State) : s.assignEntry seq = { s with
    trk := { s.trk with queue := s.trk.queue.map (fun x => if x.seq = seq then
      { x with deposit := s.activeContext.map Context.seq, generation := some s.tbs.generation } else x) }
    dpu := { s.dpu with contexts := s.dpu.contexts.map (fun c =>
      if c.counting = true ∧ s.activeContext.map Context.seq = some c.seq then
        { c with assigned := c.assigned + 1, inTransit := c.inTransit + 1 } else c) } } := by
  unfold assignEntry
  cases h : s.activeContext with
  | none => simp [updateEntry]
  | some a =>
    simp only [Option.map_some, Option.some.injEq, eq_comm (a := a.seq)]
    rfl

/-- R29, R30: the entry `seq` resolved UNIDENTIFIED and assigned, before it is routed. -/
def unidentified (seq : Nat) (s : State) : State := (s.updateEntry seq (Entry.identify .unidentified)).assignEntry seq

theorem unidentified_eq (seq : Nat) (s : State) : s.unidentified seq = { s with
    trk := { s.trk with queue := s.trk.queue.map (fun x => if x.seq = seq then { x with
      resolution := some .unidentified, denomination := none, deposit := s.activeContext.map Context.seq,
      generation := some s.tbs.generation } else x) }
    dpu := { s.dpu with contexts := s.dpu.contexts.map (fun c =>
      if c.counting = true ∧ s.activeContext.map Context.seq = some c.seq then
        { c with assigned := c.assigned + 1, inTransit := c.inTransit + 1 } else c) } } := by
  have identified : (fun x : Entry => if x.seq = seq then { x with
        deposit := s.activeContext.map Context.seq, generation := some s.tbs.generation } else x)
      ∘ (fun x => if x.seq = seq then x.identify .unidentified else x)
      = fun x => if x.seq = seq then { x with
        resolution := some .unidentified, denomination := none, deposit := s.activeContext.map Context.seq,
        generation := some s.tbs.generation } else x := by
    funext x
    by_cases h : x.seq = seq <;> simp [h, Entry.identify]
  rw [← identified, ← List.map_map]
  exact assignEntry_eq seq _

/-- R29: the decision point of the oldest SEEN entry. -/
theorem expireDecision_of_oldest (he : s.entry seq = some e) (hs : e.state = .seen)
    (hr : reached s.trk.position e.decision = true) (ho : s.olderSeen seq = []) :
    s.expireDecision seq = (s.unidentified seq).route seq := by
  have seen : s.isSeen seq = true :=
    List.any_eq_true.mpr ⟨e, List.mem_of_find?_eq_some he, by simp [seq_of_entry he, hs]⟩
  have resolved : s.resolveUnidentified [seq] = s.resolve seq .unidentified := if_pos seen
  unfold expireDecision
  rw [he]
  dsimp only
  rw [if_pos ⟨hs, hr⟩, ho]
  exact resolved

/-- R37, R39, R40, R46: the routing of an unidentified entry, with the window at pocket 1 still ahead. -/
theorem route_unidentified (he : s.entry seq = some e) (hu : e.resolution = some .unidentified)
    (hg : s.tbs.params.geometry[pocket1] = some g) (hw : s.windowAhead g e.lead) :
    s.route seq = (if e.deposit = none then s.bump .orphans else s).rejected seq e.depositKey g
      (if e.tied then .tied else if e.long then .long else .unidentified) := by
  have noCard : e.isCard = false := by simp [Entry.isCard, hu]
  unfold route
  rw [he]
  dsimp only
  rw [hu, noCard]
  dsimp only
  by_cases hd : e.deposit = none
  · simp only [hd, Option.isNone_none, Bool.not_false, Bool.and_self, if_true]
    exact settleDestination_reject (s := s.bump .orphans) he hg hw _ _ _
  · simp only [hd, Option.isNone_eq_false_iff.mpr (Option.isSome_iff_ne_none.mpr hd), Bool.false_and, Bool.false_eq_true,
      if_false]
    exact settleDestination_reject he hg hw _ _ _

/-- R30, R46: the entry `seq` resolved UNIDENTIFIED and assigned, or counted as an orphan: what is then rejected. -/
def unidentifiedCounted (seq : Nat) (s : State) : State :=
  if s.activeContext = none then (s.unidentified seq).bump .orphans else s.unidentified seq

@[simp] theorem unidentifiedCounted_keeps (seq : Nat) (s : State) :
    (s.unidentifiedCounted seq).idu = s.idu ∧ (s.unidentifiedCounted seq).rte = s.rte
      ∧ (s.unidentifiedCounted seq).pkm = s.pkm ∧ (s.unidentifiedCounted seq).gdr = s.gdr
      ∧ (s.unidentifiedCounted seq).tbs = s.tbs ∧ (s.unidentifiedCounted seq).lnk = s.lnk
      ∧ (s.unidentifiedCounted seq).cmp = s.cmp ∧ (s.unidentifiedCounted seq).pending = s.pending
      ∧ (s.unidentifiedCounted seq).evu.enable = s.evu.enable
      ∧ (s.unidentifiedCounted seq).dpu.declarations = s.dpu.declarations
      ∧ (s.unidentifiedCounted seq).dpu.nextDeposit = s.dpu.nextDeposit := by
  unfold unidentifiedCounted; split <;> simp [unidentified_eq]

theorem unidentifiedCounted_trk (seq : Nat) (s : State) : (s.unidentifiedCounted seq).trk = (s.unidentified seq).trk := by
  unfold unidentifiedCounted; split <;> rfl

theorem unidentifiedCounted_dpu (seq : Nat) (s : State) : (s.unidentifiedCounted seq).dpu = (s.unidentified seq).dpu := by
  unfold unidentifiedCounted; split <;> rfl

theorem unidentifiedCounted_counters (seq : Nat) (s : State) : (s.unidentifiedCounted seq).evu.counters
    = if s.activeContext = none then (s.bump .orphans).evu.counters else s.evu.counters := by
  unfold unidentifiedCounted; split <;> simp [unidentified_eq]

/-- R15, R16, R30: the queue after the entry `seq` has been resolved UNIDENTIFIED and rejected. -/
theorem unidentifiedCounted_rejected_trk (seq d : Nat) (g : Geometry) (r : RejectReason) (s : State) :
    ((s.unidentifiedCounted seq).rejected seq d g r).trk = { s.trk with
      queue := s.trk.queue.map (fun x => if x.seq = seq then Entry.toRejects g r { x with
        resolution := some .unidentified, denomination := none, deposit := s.activeContext.map Context.seq,
        generation := some s.tbs.generation } else x) } := by
  rw [rejected_trk, unidentifiedCounted_trk, unidentified_eq]
  simp only [List.map_map, Tracker.mk.injEq, List.map_inj_left, true_and, and_true]
  intro x _
  by_cases h : x.seq = seq <;> simp [h]

/-- R29, R51: the decision point of the oldest SEEN entry, with the window at pocket 1 still ahead. -/
theorem decisionPoint_rejects (he : s.entry seq = some e) (hs : e.state = .seen)
    (hr : reached s.trk.position e.decision = true) (ho : s.olderSeen seq = [])
    (hg : s.tbs.params.geometry[pocket1] = some g) (hw : s.windowAhead g e.lead) :
    s.expireDecision seq = (s.unidentifiedCounted seq).rejected seq ((s.activeContext.map Context.seq).getD 0) g
      (if e.tied then .tied else if e.long then .long else .unidentified) := by
  have resolved : (s.unidentified seq).entry seq = some { e with
      resolution := some .unidentified, denomination := none, deposit := s.activeContext.map Context.seq,
      generation := some s.tbs.generation } := by
    have trk : (s.unidentified seq).trk = (s.updateEntry seq fun x => { x with
        resolution := some .unidentified, denomination := none, deposit := s.activeContext.map Context.seq,
        generation := some s.tbs.generation }).trk := by rw [unidentified_eq]; rfl
    rw [entry_of_trk trk]
    exact entry_updateEntry_same (by simp) he
  have hg' : (s.unidentified seq).tbs.params.geometry[pocket1] = some g := by rw [unidentified_eq]; exact hg
  have hw' : (s.unidentified seq).windowAhead g e.lead := by rw [unidentified_eq]; exact hw
  have routed := route_unidentified resolved rfl hg' hw'
  simp only [Option.map_eq_none_iff] at routed
  exact (expireDecision_of_oldest he hs hr ho).trans routed

/-! ## Reading what the end of an event leaves alone -/

theorem AgreesWith.steady_eq (h : t.AgreesWith s) : t.steady = s.steady := h

theorem AgreesWith.restKept (h : t.AgreesWith s) : t.RestKept s :=
  ⟨idu_of_steady h, rte_of_steady h, congrArg TableStore.params (tbs_of_steady h),
    show t.steady.evu.enable = s.steady.evu.enable by rw [h.steady_eq], station_of_steady h,
    show t.steady.lnk.receiver = s.steady.lnk.receiver by rw [h.steady_eq], commands_of_steady h, declarations_of_steady h,
    show t.steady.dpu.nextDeposit = s.steady.dpu.nextDeposit by rw [h.steady_eq], pending_of_steady h⟩

theorem AgreesWith.committed (h : t.AgreesWith s) (k : PocketNo) : (t.pocket k).committed = (s.pocket k).committed :=
  show (t.pocket k).steady.committed = (s.pocket k).steady.committed by rw [steady_pocket_of_eq h]

theorem AgreesWith.counting (h : t.AgreesWith s) :
    t.dpu.contexts.filter Context.counting = s.dpu.contexts.filter Context.counting :=
  show t.steady.dpu.contexts = s.steady.dpu.contexts by rw [h.steady_eq]

theorem countingContext_eq_find (d : Nat) (s : State) :
    s.countingContext d = (s.dpu.contexts.filter Context.counting).find? (fun c => c.seq == d) := by
  simp [State.countingContext, List.find?_filter, beq_eq_decide]

theorem AgreesWith.countingContext (h : t.AgreesWith s) (d : Nat) : t.countingContext d = s.countingContext d := by
  rw [countingContext_eq_find, countingContext_eq_find, h.counting]

/-- R111, R112: the context of deposit `d` after its contexts have changed by `f`. -/
theorem countingContext_of_map {f : Context → Context} (hc : ∀ c, (f c).counting = c.counting) (hs : ∀ c, (f c).seq = c.seq)
    (h : t.dpu.contexts = s.dpu.contexts.map (fun c => if c.counting = true ∧ some d = some c.seq then f c else c)) :
    t.countingContext d = (s.countingContext d).map f := by
  have found : (fun c : Context => c.counting && c.seq == d)
      ∘ (fun c => if c.counting = true ∧ some d = some c.seq then f c else c) = fun c => c.counting && c.seq == d := by
    funext c
    simp only [Function.comp]
    split <;> simp [hc, hs]
  unfold State.countingContext
  rw [h, List.find?_map, found]
  refine Option.map_congr fun c hf => if_pos ?_
  obtain ⟨counting, own⟩ : c.counting = true ∧ c.seq = d := by simpa using List.find?_some hf
  exact ⟨counting, congrArg some own.symm⟩

end State
end Sys2Proof.Machine

section
open Sys2Proof Sys2Proof.Machine

/-- Settles O18: the event is the resolution, the orphan's count where no deposit is ACTIVE, and the rejection; of what it
leaves, `settle_steady` says what the end of the event leaves alone. -/
theorem decisionPointReached : Obligations.DecisionPointReached := by
  intro s seq e g he hs hr ho hg hw
  have point : reached s.trk.position e.decision = true := decide_eq_true hr
  have due : s.decisionDue seq = true := by simp [State.decisionDue, he, hs, point]
  have rejected := State.decisionPoint_rejects he hs point ho hg hw
  have run : exec (.decisionPointExpiry seq) s = .next (s.expireDecision seq).settle :=
    congrArg Host.Outcome.next (if_pos due)
  have agrees : (s.expireDecision seq).settle.AgreesWith (s.expireDecision seq) := settle_steady _
  rw [run]
  refine ⟨_, rfl, ?_⟩
  generalize (s.expireDecision seq).settle = t at agrees
  rw [rejected] at agrees
  refine ⟨?_, ?_, ?_, fun k hk => ?_, ?_, ?_, fun c hc => ⟨?_, ?_⟩, fun hn => ?_⟩
  · simpa [State.RestKept] using agrees.restKept
  · simpa using gdr_of_steady agrees
  · simpa using tbs_of_steady agrees
  · rw [agrees.committed, State.pocket_rejected, State.pocket_commitReject_other hk]
    simp [State.pocket]
  · rw [trk_of_steady agrees, State.unidentifiedCounted_rejected_trk]
  · rw [agrees.committed, State.pocket_rejected, State.commitReject_committed]
    simp [State.pocket]
  · have counters := counters_of_steady agrees
    simpa [State.unidentifiedCounted_counters, hc] using counters
  · rw [agrees.countingContext]
    refine State.countingContext_of_map (fun _ => rfl) (fun _ => rfl) ?_
    simp [State.unidentifiedCounted_dpu, State.unidentified_eq, hc]
  · have counters := counters_of_steady agrees
    simpa [State.unidentifiedCounted_counters, hn] using counters

end

/-! SUPPORT. A take of a note frame that ends the ACTIVE deposit, and the statement about the take. -/

namespace Sys2Proof.Machine

/- One theorem at a time: many at once exhaust the threads. -/
set_option Elab.async false

/-! ## Two deposits of one sequence

`Obligations.FrameTaken` does not say that the deposit contexts are numbered apart (R100), only that the queue entries are.
Here a DRAINING deposit with nothing in transit has the sequence of the ACTIVE one. The taken note is assigned to both, and as
its arrival window has passed, it is missing at once (R17, R66): the DRAINING deposit has again nothing in transit and
completes, and by its sequence the ACTIVE one with it (log entry 26). -/

/-- The SEEN entry of an object at position 0, where the inspection station is. -/
def sharedSequenceEntry : Entry := { State.newEntry State.reset 0 false with prediction := 0 }

/-- The frame of that object: two notes that overlap (DOUBLE), which go to pocket 1. -/
def sharedSequenceFrame : RawNote :=
  { edge := 0, kind := 2, fault := false, denomination := 0, series := 0, orientation := 0, verdict := 0, fitness := 0,
    card := [], serial := [] }

/-- The state above: position 1 lies one past the window of every pocket. -/
def sharedSequenceState : State :=
  { State.reset with
    trk := { State.reset.trk with position := 1, queue := [sharedSequenceEntry] }
    idu := { fifo := [sharedSequenceFrame], overrun := false }
    dpu := { State.reset.dpu with
      contexts := [{ Context.opening 1 none none with state := .draining }, Context.opening 1 none none] }
    tbs := { State.reset.tbs with params := { LineParameters.afterReset with
      geometry := Vector.replicate 16 (some { g := 0, a := 0, h := 0, p := 0, w := 0 }) } } }

theorem sharedSequence_active : sharedSequenceState.activeContext = some (Context.opening 1 none none) := by decide +kernel

theorem sharedSequence_ended : sharedSequenceState.intakeTake.activeContext = none := by decide +kernel

end Sys2Proof.Machine

section
open Sys2Proof Sys2Proof.Machine

/-- Refutes O19: where a DRAINING deposit shares the sequence of the ACTIVE one, the taken note's missing arrival completes
both, so no ACTIVE deposit is left to have the assignment that the statement promises. -/
theorem not_frameTaken : ¬ Obligations.FrameTaken := by
  intro h
  obtain ⟨-, taken⟩ := h sharedSequenceState sharedSequenceFrame [] rfl
  obtain ⟨t, run, -, -, -, -, -, -, -, -, -, note, -⟩ := taken [] sharedSequenceEntry [] _ rfl (by decide) rfl (by decide)
    (by simp) rfl
  obtain ⟨-, assigned, -⟩ := note (by decide)
  obtain rfl : sharedSequenceState.intakeTake = t := Host.Outcome.next.inj run
  rw [sharedSequence_ended, sharedSequence_active] at assigned
  simp at assigned

end

/-! SUPPORT. What a commitment to pocket 1 makes of the pocket and of the line state, and the statements about it. -/

namespace Sys2Proof.Machine

/- One theorem at a time: many at once exhaust the threads. -/
set_option Elab.async false

variable {s t : State} {p : Pocket} {k : PocketNo} {d : Nat} {l : List Contribution}

/-! ## Room for a deposit -/

theorem hasPlace_iff : hasPlace d l = true ↔ (∃ c ∈ l, c.deposit = d) ∨ l.length < 8 := by
  simp [hasPlace, listed]

namespace Pocket

theorem hasRoom_iff : p.hasRoom d = true ↔ p.state ≠ .awaitingRemoval ∧ p.committed + p.held < p.limit
    ∧ ((∃ c ∈ p.contributions, c.deposit = d) ∨ p.contributions.length < 8) := by
  simp only [hasRoom, Bool.and_eq_true, decide_eq_true_eq, hasPlace_iff, and_assoc]
  exact Iff.rfl

/-! ## A commitment in a pocket record -/

@[simp] theorem addContribution_keeps (k : PocketNo) (d : Nat) (p : Pocket) :
    (p.addContribution k d).state = p.state ∧ (p.addContribution k d).held = p.held := by
  unfold addContribution
  repeat' split
  all_goals exact ⟨rfl, rfl⟩

@[simp] theorem commit_held (k : PocketNo) (d next : Nat) (p : Pocket) : (p.commit k d next).held = p.held := by
  unfold commit
  dsimp only
  split <;> simp

/-- R73: a commitment moves a pocket from OPEN to FULL, and no other. -/
theorem commit_state (k : PocketNo) (d next : Nat) (p : Pocket) :
    (p.commit k d next).state = p.state ∨ p.state = .open ∧ (p.commit k d next).state = .full := by
  unfold commit
  dsimp only
  split
  · next h => exact .inr ⟨by simpa using h.1, rfl⟩
  · exact .inl (by simp)

theorem commit_state_open (k : PocketNo) (d next : Nat) (p : Pocket) (h : (p.commit k d next).state = .open) :
    p.state = .open := by
  rcases commit_state k d next p with hs | ⟨hs, -⟩
  · exact hs.symm.trans h
  · exact hs

theorem commit_state_fault (k : PocketNo) (d next : Nat) (p : Pocket) :
    (p.commit k d next).state = .fault ↔ p.state = .fault := by
  rcases commit_state k d next p with hs | ⟨ho, hf⟩
  · rw [hs]
  · simp [ho, hf]

end Pocket

namespace State

/-! ## FAULT and commitments in the whole part -/

/-- R77: a pocket that does not enter OPEN frees no class. -/
theorem putPocket_of_not_opened (h : p.state = .open → (s.pocket k).state = .open) :
    s.putPocket k p = s.storePocket k p := if_neg fun ⟨hn, ho⟩ => hn (h ho)

@[simp] theorem faultPocket_lsv (k : PocketNo) (s : State) : (s.faultPocket k).lsv = s.lsv := by
  unfold faultPocket
  split
  · rfl
  · rw [putPocket_of_not_opened (by simp)]
    simp

@[simp] theorem faultPocket_state (k : PocketNo) (s : State) : ((s.faultPocket k).pocket k).state = .fault := by
  unfold faultPocket
  split
  · assumption
  · simp

theorem faultPocket_held (k : PocketNo) (s : State) : ((s.faultPocket k).pocket k).held = (s.pocket k).held := by
  unfold faultPocket
  split <;> simp

/-- R75: an UNACCOUNTED pocket 1 enters FAULT before the commitment is counted. -/
def readied (k : PocketNo) (s : State) : State :=
  if k = pocket1 ∧ (s.pocket k).state = .unaccounted then s.faultPocket k else s

/-- R73, R75: a commitment counts in its pocket's record and may give out a bundle number; it frees no class. -/
theorem commit_eq (k : PocketNo) (d : Nat) (s : State) : ∃ next, s.commit k d =
    State.storePocket k (((s.readied k).pocket k).commit k d (s.readied k).pkm.nextBundle)
      { s.readied k with pkm := { (s.readied k).pkm with nextBundle := next } } :=
  ⟨_, putPocket_of_not_opened (Pocket.commit_state_open _ _ _ _)⟩

theorem commit_pocket_same (k : PocketNo) (d : Nat) (s : State) :
    (s.commit k d).pocket k = ((s.readied k).pocket k).commit k d (s.readied k).pkm.nextBundle := by
  obtain ⟨next, h⟩ := commit_eq k d s
  rw [h, pocket_storePocket_same]

@[simp] theorem readied_lsv (k : PocketNo) (s : State) : (s.readied k).lsv = s.lsv := by
  unfold readied
  split <;> simp

@[simp] theorem commit_lsv (k : PocketNo) (d : Nat) (s : State) : (s.commit k d).lsv = s.lsv := by
  obtain ⟨next, h⟩ := commit_eq k d s
  rw [h]
  exact readied_lsv k s

theorem commit_held (k : PocketNo) (d : Nat) (s : State) : ((s.commit k d).pocket k).held = (s.pocket k).held := by
  rw [commit_pocket_same, Pocket.commit_held]
  unfold readied
  split
  · exact faultPocket_held k s
  · rfl

/-- R75: pocket 1 is in FAULT after a commitment if it was, or if it was UNACCOUNTED. -/
theorem commit_pocket1_fault (d : Nat) (s : State) : ((s.commit pocket1 d).pocket pocket1).state = .fault ↔
    (s.pocket pocket1).state = .fault ∨ (s.pocket pocket1).state = .unaccounted := by
  rw [commit_pocket_same, Pocket.commit_state_fault]
  unfold readied
  by_cases hu : (s.pocket pocket1).state = .unaccounted <;> simp [hu]

/-- R148: the line state that a halt cause leaves depends on the line state alone. -/
theorem haltCause_lsv_congr (h : t.lsv = s.lsv) (c : HaltCause) : (t.haltCause c).lsv = (s.haltCause c).lsv := by
  unfold haltCause enterHaltStopping
  simp only [h]
  cases s.lsv.line <;> simp only [raise_lsv, h]
  all_goals split <;> simp [h]

/-! ## A REJECT destination (R51) -/

theorem commitReject_of_room (h : (s.pocket pocket1).hasRoom d = true) : s.commitReject d = s.commit pocket1 d := by
  unfold commitReject
  rw [if_pos h]

theorem commitReject_of_no_room (h : ¬ (s.pocket pocket1).hasRoom d = true) :
    s.commitReject d = ((s.faultPocket pocket1).haltCause .looseOverflow).commit pocket1 d := by
  unfold commitReject
  rw [if_neg h]

theorem commitReject_held (d : Nat) (s : State) :
    ((s.commitReject d).pocket pocket1).held = (s.pocket pocket1).held := by
  by_cases h : (s.pocket pocket1).hasRoom d = true
  · rw [commitReject_of_room h, commit_held]
  · rw [commitReject_of_no_room h, commit_held, pocket_haltCause, faultPocket_held]

/-- R51: without room pocket 1 is in FAULT, and LSV has taken LOOSE_OVERFLOW. -/
theorem commitReject_overflow (h : ¬ (s.pocket pocket1).hasRoom d = true) :
    (s.commitReject d).lsv = (s.haltCause .looseOverflow).lsv ∧ ((s.commitReject d).pocket pocket1).state = .fault := by
  rw [commitReject_of_no_room h]
  constructor
  · rw [commit_lsv]
    exact haltCause_lsv_congr (faultPocket_lsv _ _) _
  · rw [commit_pocket1_fault, pocket_haltCause]
    exact .inl (faultPocket_state _ _)

/-- R54: re-planning withdraws the entry's commitment and rejects it as TIED. -/
theorem replan_of_placed {seq : Nat} {e : Entry} (he : s.entry seq = some e) (hk : e.pocket = some k) :
    s.replan seq = (s.withdraw k e.depositKey).settleDestination seq e.depositKey none (.reject .tied) := by
  unfold replan
  rw [he]
  dsimp only
  rw [hk]
  rfl

end State
end Sys2Proof.Machine

section
open Sys2Proof Sys2Proof.Machine

/-- Settles O16: the withdrawal leaves the queue and the geometry alone, so the rejection finds the entry's window ahead. -/
theorem entryReplanned : Obligations.EntryReplanned := by
  intro s seq e k g he hk hg hw
  have trk : (s.withdraw k e.depositKey).trk = s.trk := by simp
  have found : (s.withdraw k e.depositKey).entry seq = some e := (State.entry_of_trk trk seq).trans he
  have ahead : (s.withdraw k e.depositKey).windowAhead g e.lead := by unfold State.windowAhead; rw [trk]; exact hw
  rw [State.replan_of_placed he hk, State.settleDestination_reject found (by simpa using hg) ahead]
  unfold State.rejected
  rw [trk]

/-- Settles O17: with room the event is the commitment alone, without room it comes after the FAULT and the halt cause. -/
theorem rejectAlwaysCommitted : Obligations.RejectAlwaysCommitted := by
  intro d s
  refine ⟨State.commitReject_committed d s, State.commitReject_held d s,
    fun k hk => State.pocket_commitReject_other hk d s, fun hs hl hp => ?_, fun hn => ?_⟩
  · rw [State.commitReject_of_room (Pocket.hasRoom_iff.mpr ⟨hs, hl, hp⟩), State.commit_pocket1_fault]
    refine ⟨State.commit_lsv _ _ _, fun hu => ⟨.inr hu, by simp [hu]⟩, fun ⟨hf, hn⟩ => hf.resolve_left hn⟩
  · refine State.commitReject_overflow fun room => ?_
    obtain ⟨hs, hl, hp⟩ := Pocket.hasRoom_iff.mp room
    rcases hn with awaiting | full | ⟨others, eight⟩
    · exact hs awaiting
    · omega
    · rcases hp with ⟨c, hc, own⟩ | few
      · exact others c hc own
      · omega

end

/-! SUPPORT. When a watch-list entry matches a note, and the statement about it. -/

namespace Sys2Proof.Machine

/- One theorem at a time: many at once exhaust the threads. -/
set_option Elab.async false

/-- R42: a pattern matches a serial of its own length that agrees with it at every position outside the wildcard set, whose
bits are read from position `i` on. -/
theorem patternMatches_iff (wild : BitVec 16) (i : Nat) (pattern serial : List Byte) :
    patternMatches wild i pattern serial = true ↔ serial.length = pattern.length
      ∧ ∀ j < pattern.length, setHas wild (i + j) = false → serial[j]? = pattern[j]? := by
  induction pattern generalizing i serial with
  | nil => cases serial <;> simp [patternMatches]
  | cons p ps ih =>
    cases serial with
    | nil => simp [patternMatches]
    | cons c cs =>
      have first : (setHas wild i || p == c) = true ↔ (setHas wild i = false → c = p) := by
        cases setHas wild i <;> simp [eq_comm (a := c)]
      have shift (j : Nat) : i + 1 + j = i + (j + 1) := by omega
      simp only [patternMatches, Bool.and_eq_true, first, ih, shift, List.length_cons, Nat.forall_lt_succ_left,
        List.getElem?_cons_zero, List.getElem?_cons_succ, Option.some.injEq, Nat.add_right_cancel_iff, Nat.add_zero]
      tauto

theorem WatchEntry.isMatch_iff (n : NoteContents) (w : WatchEntry) :
    w.isMatch n = true ↔ w.length ≠ 0 ∧ n.serial.length = w.length.toNat
      ∧ patternMatches w.wildcards 0 (w.pattern.take w.length.toNat) n.serial = true
      ∧ (w.denomination = 255 ∨ n.denomination.map Fin.val = some w.denomination.toNat) := by
  simp only [isMatch, Bool.and_eq_true, Bool.or_eq_true, decide_eq_true_eq, and_assoc]

end Sys2Proof.Machine

section
open Sys2Proof Sys2Proof.Machine

/-- Settles O20: the pattern field holds the whole pattern, so the test of its positions is `patternMatches_iff`. -/
theorem watchEntryMatches : Obligations.WatchEntryMatches := by
  intro w n hlen hfield
  have whole : (w.pattern.take w.length.toNat).length = w.length.toNat := by rw [List.length_take]; omega
  have agree : patternMatches w.wildcards 0 (w.pattern.take w.length.toNat) n.serial = true ↔
      n.serial.length = w.length.toNat
        ∧ ∀ i, i < w.length.toNat → setHas w.wildcards i = false → n.serial[i]? = w.pattern[i]? := by
    rw [patternMatches_iff, whole]
    refine and_congr_right fun _ => forall₂_congr fun i hi => ?_
    rw [Nat.zero_add, List.getElem?_take_of_lt hi]
  have named : n.denomination.map Fin.val = some w.denomination.toNat ↔
      ∃ d, n.denomination = some d ∧ d.val = w.denomination.toNat := Option.map_eq_some_iff
  rw [WatchEntry.isMatch_iff, agree, named]
  tauto

end

/-! SUPPORT. The precedence of Table 3-1, the watch list, the rules and the commitment of a routed entry, and the statement
about routing. -/

namespace Sys2Proof.Machine

/- One theorem at a time: many at once exhaust the threads. -/
set_option Elab.async false

variable {s u w : State} {seq d : Nat} {e : Entry} {n : NoteContents} {g : Geometry} {k : PocketNo} {c : ClassNo}
  {i : DenomNo} {b : Bank} {before after : List Rule} {rule : Rule}

/-! ## Which pockets take a note (R50, R74) -/

namespace Pocket

theorem eligible_iff (p : Pocket) : p.eligible d = true ↔ p.Takes d := by
  simp only [eligible, Bool.and_eq_true, decide_eq_true_eq, hasPlace_iff, and_assoc]
  exact Iff.rfl

theorem eligibleForClass_iff (p : Pocket) : p.eligibleForClass d = true ↔ p.TakesForClass d := by
  simp only [eligibleForClass, TakesForClass, Bool.and_eq_true, Bool.or_eq_true, Bool.not_eq_true', decide_eq_true_eq,
    List.isEmpty_iff, eligible_iff, or_assoc]

end Pocket

/-! ## Steps 1 to 7 of Table 3-1 -/

theorem frameSteps_card (hk : n.kind = .separator) : frameSteps e n = some (.reject .card) := if_pos hk

theorem frameSteps_tied (hk : n.kind ≠ .separator) (ht : e.tied = true) : frameSteps e n = some (.reject .tied) := by
  simp [frameSteps, hk, ht]

theorem frameSteps_long (hk : n.kind ≠ .separator) (ht : e.tied = false) (hl : e.long = true) :
    frameSteps e n = some (.reject .long) := by
  simp [frameSteps, hk, ht, hl]

section FrameSteps

variable (ht : e.tied = false) (hl : e.long = false)
include ht hl

theorem frameSteps_double (hk : n.kind = .double) : frameSteps e n = some (.reject .double) := by
  simp [frameSteps, hk, ht, hl]

theorem frameSteps_foreign (hk : n.kind = .foreign) : frameSteps e n = some (.reject .foreign) := by
  simp [frameSteps, hk, ht, hl]

theorem frameSteps_fault (hk : n.kind = .note) (hf : n.fault = true) :
    frameSteps e n = some (.reject .inspectionFault) := by
  simp [frameSteps, hk, ht, hl, hf]

theorem frameSteps_suspect (hk : n.kind = .note) (hf : n.fault = false) (hv : n.verdict = .suspect) :
    frameSteps e n = some .hold := by
  simp [frameSteps, hk, ht, hl, hf, hv]

theorem frameSteps_passed (hk : n.kind = .note) (hf : n.fault = false) (hv : n.verdict ≠ .suspect) :
    frameSteps e n = none := by
  simp [frameSteps, hk, ht, hl, hf, hv]

end FrameSteps

/-! ## The watch list (R43) -/

theorem Bank.mem_watchMatches (b : Bank) (n : NoteContents) (j : Fin 32) :
    j ∈ b.watchMatches n ↔ b.watch[j].isMatch n = true := by
  have all : ∀ j : Fin 32, j ∈ allWatch := by decide
  simp [watchMatches, all j]

/-- The matching entries stand in order, so the first of them is the lowest. -/
theorem Bank.watchMatches_pairwise (b : Bank) (n : NoteContents) : (b.watchMatches n).Pairwise (· < ·) :=
  List.Pairwise.filter _ (by decide : allWatch.Pairwise (· < ·))

/-- R43 step 1: the hit counts of the entries in a list advance once each. -/
theorem getElem_foldl_bumpHit (v : Vector Nat 32) (l : List (Fin 32)) (hl : l.Nodup) (j : Fin 32) :
    (l.foldl bumpHit v)[j] = if j ∈ l then min (v[j] + 1) 255 else v[j] := by
  induction l generalizing v with
  | nil => simp
  | cons a l ih =>
    obtain ⟨ha, hl⟩ := List.nodup_cons.mp hl
    rw [List.foldl_cons, ih _ hl]
    by_cases hj : j = a
    · subst hj
      simp [ha, bumpHit]
    · have other : (bumpHit v a)[j] = v[j] := by
        have hv : a.val ≠ j.val := fun h => hj (Fin.ext h.symm)
        simp [bumpHit, hv]
      simp [hj, other]

namespace State

theorem recordHits_hits (b : Bank) (n : NoteContents) (v : Vector Nat 32) :
    (b.watchMatches n).foldl bumpHit v
      = Vector.ofFn (fun j : Fin 32 => if b.watch[j].isMatch n then min (v[j] + 1) 255 else v[j]) := by
  have nodup : (b.watchMatches n).Nodup := (b.watchMatches_pairwise n).imp ne_of_lt
  ext j hj
  have counted := getElem_foldl_bumpHit v _ nodup ⟨j, hj⟩
  simpa [Bank.mem_watchMatches] using counted

/-- R43: what a note's hits leave is what `State.WatchLeaves` says, and nothing else is. -/
theorem WatchLeaves.eq_recordHits (h : u.WatchLeaves e n w) : w = u.recordHits e n (u.tbs.active.watchMatches n) := by
  obtain ⟨no, first⟩ := h
  have member := u.tbs.active.mem_watchMatches n
  have ordered := u.tbs.active.watchMatches_pairwise n
  have hits := recordHits_hits u.tbs.active n u.rte.hits
  cases hm : u.tbs.active.watchMatches n with
  | nil =>
    simp only [hm, List.not_mem_nil, false_iff, Bool.not_eq_true] at member
    exact no member
  | cons i rest =>
    rw [hm] at member ordered hits
    have below (j : Fin 32) (hj : j < i) : u.tbs.active.watch[j].isMatch n = false := by
      refine Bool.eq_false_iff.mpr fun hit => ?_
      rcases List.mem_cons.mp ((member j).mpr hit) with rfl | later
      · exact lt_irrefl _ hj
      · exact lt_asymm hj (List.rel_of_pairwise_cons ordered later)
    rw [first i ((member i).mp List.mem_cons_self) below]
    unfold recordHits
    dsimp only
    rw [hits]
    rfl

/-- `w` is `s` but for the counters, the events and the watch state: what routing reads is the same in both. -/
structure RoutesLike (s w : State) : Prop where
  trk : w.trk = s.trk
  pkm : w.pkm = s.pkm
  tbs : w.tbs = s.tbs
  lsv : w.lsv = s.lsv

theorem RoutesLike.trans (h : s.RoutesLike u) (h' : u.RoutesLike w) : s.RoutesLike w :=
  ⟨h'.trk.trans h.trk, h'.pkm.trans h.pkm, h'.tbs.trans h.tbs, h'.lsv.trans h.lsv⟩

theorem RoutesLike.entry (h : s.RoutesLike w) (he : s.entry seq = some e) : w.entry seq = some e :=
  (entry_of_trk h.trk seq).trans he

theorem RoutesLike.geometry (h : s.RoutesLike w) (hg : s.tbs.params.geometry[k] = some g) :
    w.tbs.params.geometry[k] = some g := by
  rw [h.tbs]
  exact hg

theorem RoutesLike.windowAhead {lead : Position} (h : s.RoutesLike w) (hw : s.windowAhead g lead) :
    w.windowAhead g lead := by
  unfold State.windowAhead
  rw [h.trk]
  exact hw

theorem RoutesLike.pocket (h : s.RoutesLike w) (k : PocketNo) : w.pocket k = s.pocket k := by
  unfold State.pocket
  rw [h.pkm]

/-- R43: without a match the watch list leaves the state as it is. -/
theorem watchLeaves_self (no : ∀ j : Fin 32, s.tbs.active.watch[j].isMatch n = false) : s.WatchLeaves e n s :=
  ⟨fun _ => rfl, fun j hit => absurd ((no j).symm.trans hit) Bool.false_ne_true⟩

theorem WatchLeaves.routesLike (h : u.WatchLeaves e n w) : u.RoutesLike w := by
  rw [h.eq_recordHits]
  constructor <;> simp

/-! ## Steps 8 to 13 of Table 3-1 -/

/-- R43 step 5: a matching entry with action HOLD decides the routing. -/
theorem routeNote_of_hold (h : u.WatchLeaves e n w)
    (hold : ∃ j : Fin 32, u.tbs.active.watch[j].isMatch n = true ∧ u.tbs.active.watch[j].action = 0) :
    u.routeNote seq e n = w.settleDestination seq e.depositKey (w.faceOf n) .hold := by
  have tbs := h.routesLike.tbs
  obtain ⟨j, hit, action⟩ := hold
  rw [h.eq_recordHits] at tbs ⊢
  unfold routeNote
  dsimp only
  refine if_pos (List.any_eq_true.mpr ⟨j, (u.tbs.active.mem_watchMatches n j).mpr hit, ?_⟩)
  rw [tbs]
  exact decide_eq_true action

/-- R43 step 5: where no matching entry has action HOLD, steps 9 to 13 decide. -/
theorem routeNote_of_flags (h : u.WatchLeaves e n w)
    (flags : ∀ j : Fin 32, u.tbs.active.watch[j].isMatch n = true → u.tbs.active.watch[j].action ≠ 0) :
    u.routeNote seq e n = w.settleDestination seq e.depositKey (w.faceOf n) (w.lineSteps e n) := by
  have tbs := h.routesLike.tbs
  rw [h.eq_recordHits] at tbs ⊢
  unfold routeNote
  dsimp only
  refine if_neg fun any => ?_
  obtain ⟨j, hit, action⟩ := List.any_eq_true.mp any
  rw [tbs] at action
  exact flags j ((u.tbs.active.mem_watchMatches n j).mp hit) (of_decide_eq_true action)

end State

/-- What a rule's result makes of a note before a pocket is selected (R49). -/
def RuleResult.destination : RuleResult → Destination
  | .cls c => .cls c
  | .hold => .hold
  | .reject => .reject .ruleReject

theorem Rule.isMatch_iff (i : DenomNo) (n : NoteContents) (r : Rule) : r.isMatch i n = true ↔ r.Fits i n := by
  simp only [isMatch, Fits, Bool.and_eq_true, and_assoc]

/-- R48: without a matching rule the note is rejected. -/
theorem Bank.ruleStep_of_none (h : ∀ x ∈ b.rules.toList, ¬ x.Fits i n) : b.ruleStep i n = .reject .noRule := by
  have none : b.rules.toList.find? (Rule.isMatch i n) = none :=
    List.find?_eq_none.mpr fun x hx => (Rule.isMatch_iff i n x).not.mpr (h x hx)
  unfold ruleStep
  rw [none]

/-- R48: the first matching rule decides. -/
theorem Bank.ruleStep_of_first (h : b.rules.toList = before ++ rule :: after) (hb : ∀ x ∈ before, ¬ x.Fits i n)
    (hr : rule.Fits i n) : b.ruleStep i n = rule.result.destination := by
  have found : b.rules.toList.find? (Rule.isMatch i n) = some rule := by
    refine List.find?_eq_some_iff_append.mpr ⟨(Rule.isMatch_iff i n rule).mpr hr, before, after, h, fun x hx => ?_⟩
    rw [Bool.not_eq_true', ← Bool.not_eq_true, Rule.isMatch_iff]
    exact hb x hx
  unfold ruleStep
  rw [found]
  dsimp only
  cases rule.result <;> rfl

namespace State

theorem lineSteps_halted (hh : s.lsv.line.isHalt = true) : s.lineSteps e n = .reject .halted := by
  simp [lineSteps, hh]

section LineSteps

variable (hh : s.lsv.line.isHalt = false)
include hh

theorem lineSteps_orphan (hd : e.deposit = none) : s.lineSteps e n = .reject .orphan := by
  simp [lineSteps, hh, hd]

variable (hd : e.deposit ≠ none)
include hd

theorem lineSteps_unverified (hv : n.verdict = .unverified) : s.lineSteps e n = .reject .unverified := by
  simp [lineSteps, hh, hd, hv]

variable (hv : n.verdict = .genuine)
include hv

theorem lineSteps_unknown (hi : ∀ i, n.denomination = some i → s.tbs.active.denominations[i].enabled = false) :
    s.lineSteps e n = .reject .unknownDenomination := by
  cases h : n.denomination with
  | none => simp [lineSteps, hh, hd, hv, h]
  | some i =>
    simp only [lineSteps, hh, Option.isNone_iff_eq_none, hd, hv, h, hi i h, Bool.false_eq_true, reduceCtorEq, if_false]

theorem lineSteps_rules (hi : n.denomination = some i) (he : s.tbs.active.denominations[i].enabled = true) :
    s.lineSteps e n = s.tbs.active.ruleStep i n := by
  simp only [lineSteps, hh, Option.isNone_iff_eq_none, hd, hv, hi, he, Bool.false_eq_true, reduceCtorEq, if_false, if_true]

end LineSteps

/-! ## The commitment and the marks of the entry (R16, R49 to R51) -/

/-- R15 to R17: the marks of an entry that takes a pocket with a gate still lie ahead. -/
theorem placeEntry_gate (hk : k ≠ pocket1) (he : s.entry seq = some e) (hg : s.tbs.params.geometry[k] = some g)
    (hm : s.marksAhead g e.lead) (dest : Destination) (face : Option Nat) :
    s.placeEntry seq dest face k = s.updateEntry seq (Entry.toPocket g k dest face) := by
  obtain ⟨onAhead, windowAhead⟩ := hm
  have marks : s.placeEntry seq dest face k
      = (s.updateEntry seq (Entry.toPocket g k dest face)).expireReached seq := by
    unfold placeEntry
    rw [hg]
    simp only [Entry.takePocket, hk, if_false, Option.map_some]
    rfl
  have taken := entry_updateEntry_same (f := Entry.toPocket g k dest face) (fun _ => rfl) he
  generalize hu : s.updateEntry seq (Entry.toPocket g k dest face) = u at marks taken
  have position : u.trk.position = s.trk.position := by rw [← hu]; rfl
  have gateOn : u.expireGateOn seq = u := by
    unfold expireGateOn
    rw [taken]
    refine if_neg fun ⟨_, due⟩ => ?_
    rw [position] at due
    exact Bool.false_ne_true ((reached_eq_false onAhead).symm.trans due)
  have gateOff : u.expireGateOff seq = u := by
    unfold expireGateOff
    rw [taken]
    exact if_neg fun ⟨deflecting, _⟩ => EntryState.noConfusion deflecting
  rw [marks, expireReached, gateOn, gateOff]
  refine expireWindow_of_ahead taken fun m hm => ?_
  obtain rfl : e.lead + BitVec.ofNat 16 (g.p + g.w) = m := Option.some.inj hm
  rw [position]
  exact reached_eq_false windowAhead

/-- R49, R50: the commitment to a pocket with a gate and the entry's marks there. -/
theorem commit_placeEntry (hk : k ≠ pocket1) (he : s.entry seq = some e) (hg : s.tbs.params.geometry[k] = some g)
    (hm : s.marksAhead g e.lead) (d : Nat) (dest : Destination) (face : Option Nat) :
    (s.commit k d).placeEntry seq dest face k = s.placed seq d g k dest face := by
  have trk : (s.commit k d).trk = s.trk := by simp
  have committed : (s.commit k d).entry seq = some e := (entry_of_trk trk seq).trans he
  have ahead : (s.commit k d).marksAhead g e.lead := by unfold marksAhead windowAhead; rw [trk]; exact hm
  rw [placeEntry_gate hk committed (by simpa using hg) ahead]
  unfold updateEntry placed
  rw [trk]

/-- R50: what a HOLD leaves. -/
theorem settleDestination_hold (he : s.entry seq = some e) (hg : s.tbs.params.geometry[pocket1] = some g)
    (hw : s.windowAhead g e.lead) (face : Option Nat) :
    s.HeldFrom seq e g (s.settleDestination seq e.depositKey face .hold) := by
  refine ⟨fun takes g2 hg2 hm => ?_, fun refuses => ?_⟩
  · rw [← commit_placeEntry (by decide) he hg2 hm]
    exact if_pos ((Pocket.eligible_iff _).mpr takes)
  · have trk : (s.haltCause .looseOverflow).trk = s.trk := by simp
    have found : (s.haltCause .looseOverflow).entry seq = some e := (entry_of_trk trk seq).trans he
    have ahead : (s.haltCause .looseOverflow).windowAhead g e.lead := by unfold windowAhead; rw [trk]; exact hw
    rw [← settleDestination_reject found (by simpa using hg) ahead e.depositKey none .holdUnavailable]
    exact if_neg ((Pocket.eligible_iff _).not.mpr refuses)

/-- R49, R74: a class whose first eligible pocket is `k`. -/
theorem settleDestination_cls {passed behindIt : List PocketNo} (he : s.entry seq = some e)
    (hc : s.tbs.active.classes[c].pockets = passed ++ k :: behindIt)
    (hp : ∀ x ∈ passed, ¬ (s.pocket x).TakesForClass d) (ht : (s.pocket k).TakesForClass d) (hk : k ≠ pocket1)
    (hg : s.tbs.params.geometry[k] = some g) (hm : s.marksAhead g e.lead) (face : Option Nat) :
    s.settleDestination seq d face (.cls c) = s.placed seq d g k (.cls c) face := by
  have selected : s.select c d = some k := by
    refine List.find?_eq_some_iff_append.mpr ⟨(Pocket.eligibleForClass_iff _).mpr ht, passed, behindIt, hc, fun x hx => ?_⟩
    rw [Bool.not_eq_true', ← Bool.not_eq_true, Pocket.eligibleForClass_iff]
    exact hp x hx
  unfold settleDestination
  dsimp only
  rw [selected]
  exact commit_placeEntry hk he hg hm d _ face

/-- R74, R77: a class that joins the blocked-class set leaves it not empty, so CLASS_BLOCKED is held. -/
theorem blockClass_eq (c : ClassNo) (s : State) : s.blockClass c = s.classFull c := by
  have member : setHas (setAdd s.pkm.blocked c.val) c.val = true := by
    simp [setHas, setAdd, c.isLt]
  have blocked : (setAdd s.pkm.blocked c.val != 0) = true := by
    refine bne_iff_ne.mpr fun empty => ?_
    rw [empty] at member
    simp [setHas] at member
  unfold blockClass classFull setBlocked holdWhile
  rw [blocked]
  rfl

/-- R49, R74: a class of which no listed pocket is eligible. -/
theorem settleDestination_classFull (he : s.entry seq = some e) (hg : s.tbs.params.geometry[pocket1] = some g)
    (hw : s.windowAhead g e.lead) (hn : ∀ k ∈ s.tbs.active.classes[c].pockets, ¬ (s.pocket k).TakesForClass d)
    (face : Option Nat) :
    s.settleDestination seq d face (.cls c) = (s.classFull c).rejected seq d g .classFull := by
  have none : s.select c d = none :=
    List.find?_eq_none.mpr fun k hk => (Pocket.eligibleForClass_iff _).not.mpr (hn k hk)
  have trk : (s.blockClass c).trk = s.trk := by simp
  have found : (s.blockClass c).entry seq = some e := (entry_of_trk trk seq).trans he
  have ahead : (s.blockClass c).windowAhead g e.lead := by unfold windowAhead; rw [trk]; exact hw
  unfold settleDestination
  dsimp only
  rw [none, ← blockClass_eq]
  exact settleDestination_reject found (by simpa using hg) ahead d face .classFull

/-! ## The routing of an entry resolved from a frame (R37) -/

/-- R46: an orphan is counted as it is routed; a card is none. -/
def orphanCounted (e : Entry) (n : NoteContents) (s : State) : State :=
  if e.deposit = none ∧ n.kind ≠ .separator then s.bump .orphans else s

theorem orphanCounted_of_deposit (hd : e.deposit = some d) (s : State) : s.orphanCounted e n = s :=
  if_neg fun ⟨hn, _⟩ => Option.some_ne_none d (hd.symm.trans hn)

theorem orphanCounted_routesLike (e : Entry) (n : NoteContents) (s : State) : s.RoutesLike (s.orphanCounted e n) := by
  unfold orphanCounted
  split <;> exact ⟨rfl, rfl, rfl, rfl⟩

/-- R46: the test for an orphan in `State.route`. -/
theorem counted_eq (hr : e.resolution = some (.frame n)) :
    (if e.deposit.isNone && !e.isCard then s.bump .orphans else s) = s.orphanCounted e n := by
  unfold orphanCounted Entry.isCard
  rw [hr]
  simp

section Route

variable (he : s.entry seq = some e) (hr : e.resolution = some (.frame n))
include he hr

/-- R37: an entry that steps 1 to 7 decide. -/
theorem route_of_step {dest : Destination} (hf : frameSteps e n = some dest) :
    s.route seq = (s.orphanCounted e n).settleDestination seq e.depositKey none dest := by
  unfold route
  rw [he]
  dsimp only
  rw [counted_eq hr, hr]
  dsimp only
  rw [hf]

/-- R37: an entry that passes step 7. -/
theorem route_of_note (hf : frameSteps e n = none) : s.route seq = (s.orphanCounted e n).routeNote seq e n := by
  unfold route
  rw [he]
  dsimp only
  rw [counted_eq hr, hr]
  dsimp only
  rw [hf]

variable (hf : frameSteps e n = none) (hw : (s.orphanCounted e n).WatchLeaves e n w)
include hf hw

/-- R37, R43: an entry that step 8 decides. -/
theorem route_of_hold_hit
    (hold : ∃ j : Fin 32, s.tbs.active.watch[j].isMatch n = true ∧ s.tbs.active.watch[j].action = 0) :
    s.route seq = w.settleDestination seq e.depositKey (w.faceOf n) .hold := by
  rw [route_of_note he hr hf]
  refine routeNote_of_hold hw ?_
  rw [(orphanCounted_routesLike e n s).tbs]
  exact hold

/-- R37: an entry that steps 9 to 13 decide. -/
theorem route_of_lineSteps
    (flags : ∀ j : Fin 32, s.tbs.active.watch[j].isMatch n = true → s.tbs.active.watch[j].action ≠ 0) :
    s.route seq = w.settleDestination seq e.depositKey (w.faceOf n) (s.lineSteps e n) := by
  have like := (orphanCounted_routesLike e n s).trans hw.routesLike
  have same : w.lineSteps e n = s.lineSteps e n := by
    unfold lineSteps
    rw [like.lsv, like.tbs]
  rw [route_of_note he hr hf, ← same]
  refine routeNote_of_flags hw ?_
  rw [(orphanCounted_routesLike e n s).tbs]
  exact flags

end Route

/-! ## The outcomes in a state that routing has counted in -/

section Outcomes

variable (he : s.entry seq = some e) (hg : s.tbs.params.geometry[pocket1] = some g) (hw : s.windowAhead g e.lead)
  (like : s.RoutesLike w)
include he hg hw like

/-- R51: a reject in a state that is `s` but for what routing has counted. -/
theorem RoutesLike.rejects (face : Option Nat) (r : RejectReason) :
    w.settleDestination seq e.depositKey face (.reject r) = w.rejected seq e.depositKey g r :=
  settleDestination_reject (like.entry he) (like.geometry hg) (like.windowAhead hw) _ face r

/-- R50: a HOLD in such a state. -/
theorem RoutesLike.holds (face : Option Nat) :
    w.HeldFrom seq e g (w.settleDestination seq e.depositKey face .hold) :=
  settleDestination_hold (like.entry he) (like.geometry hg) (like.windowAhead hw) face

/-- R49, R74: a full class in such a state. -/
theorem RoutesLike.classFull
    (hn : ∀ k ∈ s.tbs.active.classes[c].pockets, ¬ (s.pocket k).TakesForClass e.depositKey) (face : Option Nat) :
    w.settleDestination seq e.depositKey face (.cls c) = (w.classFull c).rejected seq e.depositKey g .classFull := by
  refine settleDestination_classFull (like.entry he) (like.geometry hg) (like.windowAhead hw) ?_ face
  rw [like.tbs]
  intro k hk
  rw [like.pocket]
  exact hn k hk

end Outcomes

end State
end Sys2Proof.Machine

section
open Sys2Proof Sys2Proof.Machine

/-- Settles O21: Table 3-1 step by step. Each step gives a destination (`frameSteps`, the watch list, `State.lineSteps`), and
what the destination leaves is said of any state that is `s` but for what routing has counted by then. -/
theorem noteRouted : Obligations.NoteRouted := by
  refine ⟨?_, ?_⟩
  · intro s seq d e n i before after rule c passed behindIt k g he hr hd ht hl hk hf hv hi no hh enabled rules hb fits hc
      pockets hp takes hne hg hm
    have watched : (s.orphanCounted e n).WatchLeaves e n s := by
      rw [State.orphanCounted_of_deposit hd]
      exact State.watchLeaves_self no
    have flags (j : Fin 32) (hit : s.tbs.active.watch[j].isMatch n = true) : s.tbs.active.watch[j].action ≠ 0 :=
      absurd ((no j).symm.trans hit) Bool.false_ne_true
    have key : e.depositKey = d := by simp [Entry.depositKey, hd]
    have face : s.faceOf n = some s.tbs.active.denominations[i].face := by simp [State.faceOf, hi]
    have chosen : s.lineSteps e n = .cls c := by
      rw [State.lineSteps_rules hh (by simp [hd]) hv hi enabled, Bank.ruleStep_of_first rules hb fits, hc]
      rfl
    rw [State.route_of_lineSteps he hr (frameSteps_passed ht hl hk hf (by simp [hv])) watched flags, chosen, key, face]
    exact State.settleDestination_cls he pockets hp takes hne hg hm _
  · intro s u seq e n g he hr hg hw hu
    obtain rfl : u = s.orphanCounted e n := hu
    have counted := State.orphanCounted_routesLike e n s
    have rejects {r : RejectReason} (hf : frameSteps e n = some (.reject r)) :
        s.route seq = (s.orphanCounted e n).rejected seq e.depositKey g r :=
      (State.route_of_step he hr hf).trans (counted.rejects he hg hw none r)
    refine ⟨fun hk => rejects (frameSteps_card hk), fun hk => ⟨fun ht => rejects (frameSteps_tied hk ht),
      fun ht hl => rejects (frameSteps_long hk ht hl), fun ht hl => ⟨fun hk => rejects (frameSteps_double ht hl hk),
      fun hk => rejects (frameSteps_foreign ht hl hk), fun hk hf => rejects (frameSteps_fault ht hl hk hf),
      fun hk hf => ⟨fun hv => ?_, fun hv w watched => ?_⟩⟩⟩⟩
    · rw [State.route_of_step he hr (frameSteps_suspect ht hl hk hf hv)]
      exact counted.holds he hg hw none
    · have passed := frameSteps_passed ht hl hk hf hv
      have like := counted.trans watched.routesLike
      refine ⟨fun hold => ?_, fun flags => ?_⟩
      · rw [State.route_of_hold_hit he hr passed watched hold]
        exact like.holds he hg hw _
      · rw [State.route_of_lineSteps he hr passed watched flags]
        have rejects {r : RejectReason} (hs : s.lineSteps e n = .reject r) :
            w.settleDestination seq e.depositKey (w.faceOf n) (s.lineSteps e n) = w.rejected seq e.depositKey g r := by
          rw [hs]
          exact like.rejects he hg hw _ r
        refine ⟨fun hh => rejects (State.lineSteps_halted hh), fun hh => ⟨fun hd => rejects (State.lineSteps_orphan hh hd),
          fun hd => ⟨fun hv => rejects (State.lineSteps_unverified hh hd hv), fun hv =>
          ⟨fun unknown => rejects (State.lineSteps_unknown hh hd hv unknown), fun i hi enabled => ?_⟩⟩⟩⟩
        have byRule := State.lineSteps_rules hh hd hv hi enabled
        refine ⟨fun no => rejects (byRule.trans (Bank.ruleStep_of_none no)), fun before rule after rules hb fits => ?_⟩
        rw [Bank.ruleStep_of_first rules hb fits] at byRule
        refine ⟨fun result => rejects ?_, fun result => ?_, fun c result full => ?_⟩
        · rw [byRule, result]
          rfl
        · rw [byRule, result]
          exact like.holds he hg hw _
        · rw [byRule, result]
          exact like.classFull he hg hw full _

end

/-! SUPPORT. The gates at their marks, the entry an arrival matches, and the statements about both. -/

namespace Sys2Proof.Machine

/- One theorem at a time: many at once exhaust the threads. -/
set_option Elab.async false

variable {s : State} {seq : Nat} {e : Entry} {k : PocketNo} {m : Position}

/-! ## Gates (R56) -/

theorem Gate.minusOne_eq (g : Gate) :
    g.minusOne = { on := decide (1 < g.deflecting), deflecting := g.deflecting - 1 } := by
  have last : 0 < g.deflecting - 1 ↔ 1 < g.deflecting := by omega
  simp [Gate.minusOne, last]

theorem gateLeave_gates (k : PocketNo) (s : State) :
    (s.gateLeave k).gdr.gates = s.gdr.gates.set k s.gdr.gates[k].minusOne := by
  rw [Gate.minusOne_eq]
  rfl

theorem leaveGateOf_gates (hk : e.pocket = some k) (s : State) : (s.leaveGateOf e).gdr.gates
    = if e.state = .deflecting then s.gdr.gates.set k s.gdr.gates[k].minusOne else s.gdr.gates := by
  unfold State.leaveGateOf
  rw [hk]
  dsimp only
  split
  · exact gateLeave_gates k s
  · rfl

namespace State

/-! ## Gate-on and gate-off marks (R57, R58) -/

theorem expireGateOn_of_reached (he : s.entry seq = some e) (hk : e.pocket = some k) (hm : e.gateOn = some m)
    (hs : e.state = .routed) (hr : (s.trk.position - m).toNat < 32768) :
    s.expireGateOn seq = (s.updateEntry seq (fun x => { x with state := .deflecting })).gateEnter k := by
  have point : reached s.trk.position m = true := decide_eq_true hr
  simp [expireGateOn, he, hk, hm, hs, point]

theorem expireGateOff_of_reached (he : s.entry seq = some e) (hk : e.pocket = some k) (hm : e.gateOff = some m)
    (hs : e.state = .deflecting) (hr : (s.trk.position - m).toNat < 32768) :
    s.expireGateOff seq = (s.updateEntry seq (fun x => { x with state := .awaitingArrival })).gateLeave k := by
  have point : reached s.trk.position m = true := decide_eq_true hr
  simp [expireGateOff, he, hk, hm, hs, point]

theorem expireGateOn_of_not_routed (he : s.entry seq = some e) (hs : e.state ≠ .routed) : s.expireGateOn seq = s := by
  unfold expireGateOn
  rw [he]
  dsimp only
  split
  · exact if_neg fun h => hs h.1
  · rfl

theorem expireGateOff_of_not_deflecting (he : s.entry seq = some e) (hs : e.state ≠ .deflecting) :
    s.expireGateOff seq = s := by
  unfold expireGateOff
  rw [he]
  dsimp only
  split
  · exact if_neg fun h => hs h.1
  · rfl

end State

/-! ## The match of an arrival (R62) -/

theorem Entry.matchesArrival_iff {pos : Position} : e.matchesArrival k pos = true ↔ e.pocket = some k
    ∧ (e.state = .deflecting ∨ e.state = .awaitingArrival)
    ∧ ∃ a b, e.windowStart = some a ∧ e.windowEnd = some b ∧ (pos - a).toNat ≤ (b - a).toNat := by
  simp only [Entry.matchesArrival, Bool.and_eq_true, decide_eq_true_eq, and_assoc]
  refine and_congr_right fun _ => and_congr_right fun _ => ?_
  cases e.windowStart with
  | none => simp
  | some a =>
    cases e.windowEnd with
    | none => simp
    | some b =>
      simp only [Option.some.injEq, exists_and_left, exists_eq_left']
      exact decide_eq_true_iff

theorem State.pocket_of_arrivalMatch (h : s.arrivalMatch k = some e) : e.pocket = some k :=
  (Entry.matchesArrival_iff.mp (List.find?_some h)).1

end Sys2Proof.Machine

section
open Sys2Proof Sys2Proof.Machine

/-- Settles O22: a mark that is reached writes the entry's state and its gate; in another state of the entry it does nothing. -/
theorem gateMarks : Obligations.GateMarks := by
  intro s seq e k m he hk
  refine ⟨fun hm hs hr => ?_, fun hm hs hr => ?_, fun hs => ?_, fun hs => ?_⟩
  · change Host.Outcome.next (s.expireGateOn seq) = _
    rw [State.expireGateOn_of_reached he hk hm hs hr]
    rfl
  · change Host.Outcome.next (s.expireGateOff seq) = _
    rw [State.expireGateOff_of_reached he hk hm hs hr, State.gateLeave, ← gateLeave_gates k s]
    rfl
  · exact congrArg Host.Outcome.next (State.expireGateOn_of_not_routed he hs)
  · exact congrArg Host.Outcome.next (State.expireGateOff_of_not_deflecting he hs)

/-- Settles O25: the match is the first entry of the queue, oldest first, that R62's condition holds of. -/
theorem arrivalMatched : Obligations.ArrivalMatched := by
  intro s k
  refine ⟨fun x => x.matchesArrival k s.trk.position = true, fun x => Entry.matchesArrival_iff, fun e => ?_, ?_⟩
  · constructor
    · intro h
      obtain ⟨he, older, newer, hq, ho⟩ := List.find?_eq_some_iff_append.mp h
      exact ⟨older, newer, hq, he, fun x hx => by simpa using ho x hx⟩
    · rintro ⟨older, newer, hq, he, ho⟩
      exact List.find?_eq_some_iff_append.mpr ⟨he, older, newer, hq, fun x hx => by simpa using ho x hx⟩
  · exact List.find?_eq_none

end

/-! SUPPORT. What the end of an event can do to one pocket and to a deposit that has completed. -/

namespace Sys2Proof.Machine

/- One theorem at a time: many at once exhaust the threads. -/
set_option Elab.async false

variable {s t : State} {j k : PocketNo} {p q : Pocket} {b occupied : Bool} {c : Context} {st : PocketState}

/-! ## One pocket at the end of an event -/

/-- What the end of an event can do to a pocket record, which stands here with whether the transmit slot is occupied. -/
inductive Pocket.EndStep : Pocket × Bool → Pocket × Bool → Prop
  /-- R81: a strap order fills its slot. -/
  | order (p : Pocket) (b : Bool) (h : p.state = .complete) : EndStep (p, b) ({ p with strapOrder := some p.order }, b)
  /-- R85: the REMOVED record is issued, and the pocket takes up its next bundle. -/
  | removed (p q : Pocket) (b : Bool) (hs : p.state = .awaitingRemoval) (he : p.emptyEye = false) (hr : p.record = none) :
      EndStep (p, b) (q, b)
  /-- R169: a frame takes the transmit slot, from another source than the pocket's own slots. -/
  | placed (p : Pocket) : EndStep (p, false) (p, true)
  /-- R82: the pocket's strap order is placed. -/
  | orderPlaced (p : Pocket) (timeout : Nat) (h : p.strapOrder ≠ none) :
      EndStep (p, false) ({ p with state := .strapping, strapOrder := none, strapTimer := some timeout }, true)
  /-- R95: the pocket's bundle record is placed. -/
  | recordPlaced (p : Pocket) : EndStep (p, false) ({ p with record := none }, true)

namespace State

/-- Pocket `k`, and whether the transmit slot is occupied. -/
def ending (k : PocketNo) (s : State) : Pocket × Bool := (s.pocket k, s.lnk.slot.isSome)

/-- The end of an event leads from `s` to `t`, as pocket `k` sees it. -/
def EndsIn (k : PocketNo) (s t : State) : Prop := Relation.ReflTransGen Pocket.EndStep (s.ending k) (t.ending k)

theorem EndsIn.of_eq (hp : t.pocket k = s.pocket k) (hl : t.lnk = s.lnk) : EndsIn k s t := by
  have same : t.ending k = s.ending k := by rw [ending, ending, hp, hl]
  rw [EndsIn, same]

theorem EndsIn.of_pkm (hp : t.pkm = s.pkm) (hl : t.lnk = s.lnk) : EndsIn k s t :=
  .of_eq (by rw [pocket, pocket, hp]) hl

theorem pocket_reenterPocket_other (h : j ≠ k) (p : Pocket) (s : State) : (s.reenterPocket k p).pocket j = s.pocket j := by
  unfold reenterPocket
  split <;> simp [pocket_storePocket_other h]

@[simp] theorem reenterPocket_pocket_same (k : PocketNo) (p : Pocket) (s : State) :
    (s.reenterPocket k p).pocket k = p := by
  unfold reenterPocket
  split <;> simp

theorem fillOrder_ends (j k : PocketNo) (s : State) : EndsIn k s (s.fillOrder j) := by
  by_cases hk : k = j
  · subst hk
    unfold fillOrder
    dsimp only
    split
    · next h =>
      refine .single ?_
      simpa [ending] using Pocket.EndStep.order (s.pocket k) s.lnk.slot.isSome h.1
    · exact .refl
  · refine .of_eq ?_ (by simp)
    unfold fillOrder
    dsimp only
    split
    · exact pocket_putPocket_other hk _ s
    · rfl

theorem issueRemoved_ends (j k : PocketNo) (s : State) : EndsIn k s (s.issueRemoved j) := by
  by_cases hk : k = j
  · subst hk
    by_cases h : (s.pocket k).state = .awaitingRemoval ∧ (s.pocket k).emptyEye = false ∧ (s.pocket k).record = none
    · obtain ⟨hs, he, hr⟩ := h
      refine .single ?_
      simpa [ending] using Pocket.EndStep.removed _ ((s.issueRemoved k).pocket k) s.lnk.slot.isSome hs he hr
    · unfold issueRemoved
      rw [if_neg h]
      exact .refl
  · refine .of_eq ?_ (by simp)
    unfold issueRemoved
    dsimp only
    split
    · rw [startBundle, pocket_reenterPocket_other hk, issueRecord, pocket_putPocket_other hk]
      rfl
    · rfl

/-- What every step of `Pocket.EndStep` keeps is kept. -/
theorem EndsIn.keeps {P : Pocket × Bool → Prop} (h : EndsIn k s t) (step : ∀ {x y}, P x → Pocket.EndStep x y → P y)
    (hs : P (s.ending k)) : P (t.ending k) := by
  unfold EndsIn at h
  generalize t.ending k = y at h ⊢
  induction h with
  | refl => exact hs
  | tail _ e ih => exact step ih e

theorem EndsIn.foldl {α : Type} {f : State → α → State} (h : ∀ s a, EndsIn k s (f s a)) (l : List α) (s : State) :
    EndsIn k s (l.foldl f s) := by
  induction l generalizing s with
  | nil => exact .refl
  | cons a l ih => exact (h s a).trans (ih (f s a))

theorem heldBack_ends (k : PocketNo) (s : State) : EndsIn k s s.heldBack :=
  .foldl (fun s j => (fillOrder_ends j k s).trans (issueRemoved_ends j k _)) allPockets s

/-- A frame takes an empty transmit slot, and the pocket stays as it is. -/
theorem EndsIn.of_placed (hs : s.lnk.slot = none) (hp : t.pocket k = s.pocket k) (ht : t.lnk.slot.isSome = true) :
    EndsIn k s t := by
  refine .single ?_
  simpa [ending, hs, hp, ht] using Pocket.EndStep.placed (s.pocket k)

/-- The pocket of the first strap order that waits has that order. -/
theorem strapOrder_of_firstOrder {o : StrapOrder} (h : s.firstOrder = some (j, o)) :
    (s.pocket j).strapOrder = some o := by
  obtain ⟨i, -, hi⟩ := List.exists_of_findSome?_eq_some h
  obtain ⟨_, ho, heq⟩ := Option.map_eq_some_iff.mp hi
  obtain ⟨rfl, rfl⟩ := Prod.mk.inj heq
  exact ho

theorem placeOrder_ends {o : StrapOrder} (hs : s.lnk.slot = none) (ho : (s.pocket j).strapOrder = some o)
    (k : PocketNo) : EndsIn k s (s.placeOrder j o) := by
  by_cases hk : k = j
  · subst hk
    refine .single ?_
    simpa [ending, placeOrder, hs] using
      Pocket.EndStep.orderPlaced (s.pocket k) s.tbs.params.strapTimeout (by simp [ho])
  · refine .of_placed hs ?_ (by simp [placeOrder])
    rw [placeOrder, pocket_putPocket_other hk, pocket_emit]

theorem placeRecord_ends (hs : s.lnk.slot = none) (r : BundleRecord) (j k : PocketNo) :
    EndsIn k s (s.placeRecord j r) := by
  by_cases hk : k = j
  · subst hk
    refine .single ?_
    simpa [ending, placeRecord, hs] using Pocket.EndStep.recordPlaced (s.pocket k)
  · refine .of_placed hs ?_ (by simp [placeRecord])
    rw [placeRecord, pocket_putPocket_other hk, pocket_emit]

theorem choose_ends (hs : s.lnk.slot = none) (k : PocketNo) : EndsIn k s s.choose := by
  unfold choose
  split
  · exact .of_placed hs rfl rfl
  · split
    · exact .of_placed hs rfl rfl
    · split
      · next ho => exact placeOrder_ends hs (strapOrder_of_firstOrder ho) k
      · split
        · exact placeRecord_ends hs _ _ k
        · split
          · exact .of_placed hs rfl rfl
          · split
            · exact .of_placed hs rfl rfl
            · exact .refl

theorem arbitrate_ends (k : PocketNo) (s : State) : EndsIn k s s.arbitrate := by
  unfold arbitrate
  split
  · exact .refl
  · next h => exact choose_ends (by simpa using h) k

@[simp] theorem feedIdleTest_keeps (s : State) : s.feedIdleTest.pkm = s.pkm ∧ s.feedIdleTest.dpu = s.dpu
    ∧ s.feedIdleTest.tbs = s.tbs ∧ s.feedIdleTest.lnk = s.lnk ∧ s.feedIdleTest.cmp = s.cmp := by
  unfold feedIdleTest
  split <;> simp

@[simp] theorem backlogTest_keeps (s : State) : s.backlogTest.pkm = s.pkm ∧ s.backlogTest.dpu = s.dpu
    ∧ s.backlogTest.tbs = s.tbs ∧ s.backlogTest.lnk = s.lnk := by
  unfold backlogTest
  split
  · simp
  · split <;> simp

/-- What the end of an event can do to a pocket: a chain of the steps of `Pocket.EndStep`. -/
theorem settle_ends (k : PocketNo) (s : State) : EndsIn k s s.settle := by
  have near (u : State) : EndsIn k u u.nearFullTest := .of_pkm (by simp) (by simp)
  have idle (u : State) : EndsIn k u u.feedIdleTest := .of_pkm (by simp) (by simp)
  have backlog (u : State) : EndsIn k u u.backlogTest := .of_pkm (by simp) (by simp)
  exact ((((((heldBack_ends k s).trans (near _)).trans (idle _)).trans (arbitrate_ends k _)).trans
    (heldBack_ends k _)).trans (near _)).trans (backlog _)

end State

/-! ## What stays through the end of an event -/

namespace Pocket

/-- A pocket in the state `st`, from which the end of an event does not take it: no strap order can be placed, and no notes
that have left it are waited for. -/
def StaysIn (st : PocketState) (x : Pocket × Bool) : Prop :=
  x.1.state = st ∧ (x.1.strapOrder = none ∨ x.2 = true) ∧ (st = .awaitingRemoval → x.1.emptyEye = true)

theorem StaysIn.step {x y : Pocket × Bool} (hc : st ≠ .complete) (h : StaysIn st x) (e : EndStep x y) : StaysIn st y := by
  obtain ⟨hs, ho, he⟩ := h
  cases e with
  | order p b h => exact absurd (hs.symm.trans h) hc
  | removed p q b h eye => exact absurd ((he (hs.symm.trans h)).symm.trans eye) (by decide)
  | placed p => exact ⟨hs, .inr rfl, he⟩
  | orderPlaced p timeout h => exact absurd (ho.resolve_right Bool.false_ne_true) h
  | recordPlaced p => exact ⟨hs, .inr rfl, he⟩

/-- No REMOVED record falls due for the pocket: its notes are seen, or are not waited for, or the record slot stays
occupied, as the transmit slot is. -/
def Spared (x : Pocket × Bool) : Prop :=
  x.1.emptyEye = true ∨ x.1.state ≠ .awaitingRemoval ∨ (x.1.record ≠ none ∧ x.2 = true)

/-- `q` holds the bundle of `p` with its counts, in the state of `p` or, with its order placed, in STRAPPING. -/
def SameBundle (p q : Pocket) : Prop :=
  q = { p with state := q.state, strapOrder := q.strapOrder, strapTimer := q.strapTimer, record := q.record }
    ∧ (q.state = p.state ∨ q.state = .strapping)

theorem SameBundle.refl (p : Pocket) : p.SameBundle p := ⟨rfl, .inl rfl⟩

theorem SameBundle.trans {r : Pocket} (h : p.SameBundle q) (g : q.SameBundle r) : p.SameBundle r := by
  obtain ⟨hq, hs⟩ := h
  obtain ⟨hr, gs⟩ := g
  refine ⟨by rw [hr, hq], ?_⟩
  rcases gs with gs | gs
  · rw [gs]
    exact hs
  · exact .inr gs

theorem Spared.step {x y : Pocket × Bool} (h : Spared x) (e : EndStep x y) : Spared y ∧ SameBundle x.1 y.1 := by
  cases e with
  | order p b hs => exact ⟨h, rfl, .inl rfl⟩
  | removed p q b hs he hr =>
    rcases h with eye | state | ⟨record, -⟩
    · exact absurd (eye.symm.trans he) (by decide)
    · exact absurd hs state
    · exact absurd hr record
  | placed p => exact ⟨h.imp_right (.imp_right fun hr => ⟨hr.1, rfl⟩), .refl p⟩
  | orderPlaced p timeout ho => exact ⟨.inr (.inl (by simp)), rfl, .inr rfl⟩
  | recordPlaced p => exact ⟨h.imp_right fun hr => .inl (hr.resolve_right fun h => Bool.false_ne_true h.2), rfl, .inl rfl⟩

end Pocket

namespace State

/-- A pocket that stands in none of the states the end of an event acts on stays in its state. -/
theorem settle_staysIn (hc : st ≠ .complete) (h : Pocket.StaysIn st (s.ending k)) : (s.settle.pocket k).state = st :=
  ((settle_ends k s).keeps (fun h e => h.step hc e) h).1

/-- A pocket for which no REMOVED record falls due keeps its bundle. -/
theorem settle_sameBundle (h : Pocket.Spared (s.ending k)) : (s.pocket k).SameBundle (s.settle.pocket k) := by
  refine ((settle_ends k s).keeps (P := fun x => Pocket.Spared x ∧ (s.pocket k).SameBundle x.1) ?_ ⟨h, .refl _⟩).2
  rintro x y ⟨spared, same⟩ e
  exact ⟨(spared.step e).1, same.trans (spared.step e).2⟩

/-! ## All pockets at the end of an event -/

theorem PocketQuiet.congr (hp : t.pkm.pockets = s.pkm.pockets) (hb : t.tbs = s.tbs) (h : s.PocketQuiet k) :
    t.PocketQuiet k := by
  unfold PocketQuiet pocket at h ⊢
  rwa [hp, hb]

theorem choose_pockets (ho : s.firstOrder = none) (hr : s.firstRecord = none) :
    s.choose.pkm.pockets = s.pkm.pockets ∧ s.choose.tbs = s.tbs := by
  unfold choose
  rw [ho, hr]
  dsimp only
  split
  · exact ⟨rfl, rfl⟩
  · split
    · exact ⟨rfl, rfl⟩
    · split
      · exact ⟨rfl, rfl⟩
      · split <;> exact ⟨rfl, rfl⟩

theorem mem_allPockets (k : PocketNo) : k ∈ allPockets := by revert k; decide

theorem firstOrder_eq_none : s.firstOrder = none ↔ ∀ k, (s.pocket k).strapOrder = none := by
  simp [firstOrder, mem_allPockets]

theorem firstRecord_eq_none : s.firstRecord = none ↔ ∀ k, (s.pocket k).record = none := by
  simp [firstRecord, mem_allPockets]

/-- R169: between events no order and no record waits beside an empty transmit slot. -/
theorem Quiet.slots_empty (h : s.Quiet) (hs : s.lnk.slot = none) (k : PocketNo) :
    (s.pocket k).strapOrder = none ∧ (s.pocket k).record = none := by
  obtain ⟨-, -, -, waits, -⟩ := h
  obtain ⟨-, -, orders, records, -⟩ := waits hs
  exact ⟨firstOrder_eq_none.mp orders k, firstRecord_eq_none.mp records k⟩

/-- The end of an event leaves the pockets as they are where none waits for R81 or R85 and no frame of theirs is placed. -/
theorem settle_pockets (hq : ∀ k, s.PocketQuiet k)
    (hw : s.lnk.slot = none → ∀ k, (s.pocket k).strapOrder = none ∧ (s.pocket k).record = none) :
    s.settle.pkm.pockets = s.pkm.pockets := by
  have placed {u : State} (hp : u.pkm = s.pkm) (hb : u.tbs = s.tbs) (hl : u.lnk = s.lnk) :
      u.arbitrate.pkm.pockets = s.pkm.pockets ∧ u.arbitrate.tbs = s.tbs := by
    have same (k : PocketNo) : u.pocket k = s.pocket k := by rw [pocket, pocket, hp]
    rw [← hp, ← hb]
    unfold arbitrate
    split
    · exact ⟨rfl, rfl⟩
    · next h =>
      have empty := hw (by rw [← hl]; simpa using h)
      exact choose_pockets (firstOrder_eq_none.mpr fun k => by rw [same, (empty k).1])
        (firstRecord_eq_none.mpr fun k => by rw [same, (empty k).2])
  have held : s.heldBack = s := heldBack_of_quiet hq
  obtain ⟨pockets, tables⟩ :=
    placed (u := s.heldBack.nearFullTest.feedIdleTest) (by simp [held]) (by simp) (by simp)
  have quiet := heldBack_of_quiet fun k => (hq k).congr pockets tables
  unfold settle
  simp only [quiet, backlogTest_keeps, nearFullTest_keeps, pockets]

/-! ## A completed deposit at the end of an event -/

/-- The completed deposit `c` waits in RECORD_PENDING in the completion order, and no other context has its sequence. -/
def AwaitsRecord (c : Context) (s : State) : Prop :=
  c ∈ s.dpu.contexts ∧ c.state = .recordPending ∧ c.seq ∈ s.dpu.completion ∧ (s.dpu.contexts.map Context.seq).Nodup

theorem AwaitsRecord.congr (hd : t.dpu = s.dpu) (h : AwaitsRecord c s) : AwaitsRecord c t := by
  unfold AwaitsRecord at h ⊢
  rwa [hd]

/-- Of contexts with distinct sequences two with the same sequence are one. -/
theorem eq_of_seq_eq {l : List Context} {a c : Context} (hn : (l.map Context.seq).Nodup) (ha : a ∈ l) (hc : c ∈ l)
    (h : a.seq = c.seq) : a = c := List.inj_on_of_nodup_map hn ha hc h

/-- R118: a placement takes the completed deposit's own record, or leaves it waiting. -/
theorem placeDeposit_awaits {x : Context} (h : AwaitsRecord c s) (hx : s.nextRecord = some x) :
    (s.placeDeposit x).lnk.slot = some (s.ownFrame .depositRecord 0 0x44 0 c.record) ∨ AwaitsRecord c (s.placeDeposit x) := by
  obtain ⟨hm, hp, hc, hn⟩ := h
  unfold nextRecord at hx
  split at hx
  · next d rest hl =>
    have own : x.seq = d := (by simpa using List.find?_some hx : x.state = .recordPending ∧ x.seq = d).2
    by_cases hd : c.seq = d
    · obtain rfl : x = c := eq_of_seq_eq hn (List.mem_of_find?_eq_some hx) hm (own.trans hd.symm)
      exact .inl rfl
    · refine .inr ⟨?_, hp, ?_, ?_⟩
      · simp [placeDeposit, hm, own, hd]
      · rw [hl, List.mem_cons] at hc
        simpa [placeDeposit, hl] using hc.resolve_left hd
      · exact hn.sublist (List.filter_sublist.map _)
  · cases hx

theorem choose_awaits (h : AwaitsRecord c s) :
    s.choose.lnk.slot = some (s.ownFrame .depositRecord 0 0x44 0 c.record) ∨ AwaitsRecord c s.choose := by
  unfold choose
  split
  · exact .inr h
  · split
    · next hx => exact placeDeposit_awaits h hx
    · refine .inr ?_
      split
      · exact h.congr (by simp [placeOrder])
      · split
        · exact h.congr (by simp [placeRecord])
        · split
          · exact h
          · split <;> exact h

/-- R110, R118: after the event a completed deposit waits for its record's frame, or the frame is placed. -/
theorem settle_completedIn (h : AwaitsRecord c s) : s.settle.CompletedIn c := by
  have placed {u : State} (hd : u.dpu = s.dpu) (hl : u.lnk = s.lnk) :
      u.arbitrate.lnk.slot = some (s.ownFrame .depositRecord 0 0x44 0 c.record) ∨ AwaitsRecord c u.arbitrate := by
    have awaits := h.congr hd
    have frame : u.ownFrame = s.ownFrame := by unfold ownFrame ownStation; rw [hl]
    unfold arbitrate
    split
    · exact .inr awaits
    · rw [← frame]
      exact choose_awaits awaits
  have station : s.settle.ownFrame = s.ownFrame := by
    unfold ownFrame ownStation
    rw [station_of_steady (settle_steady s)]
  rw [CompletedIn, station]
  unfold settle
  simp only [backlogTest_keeps, nearFullTest_keeps, heldBack_keeps]
  rcases placed (u := s.heldBack.nearFullTest.feedIdleTest) (by simp) (by simp) with slot | ⟨hm, -, hc, -⟩
  · exact .inr slot
  · exact .inl ⟨hm, hc⟩

end State
end Sys2Proof.Machine

/-! SUPPORT. What a stray does to its pocket, and the statement about stray arrivals. -/

namespace Sys2Proof.Machine

/- One theorem at a time: many at once exhaust the threads. -/
set_option Elab.async false

variable {s t : State} {j k : PocketNo}

/-! ## Event kinds that stay pending -/

theorem setHas_setAdd {n : Nat} (w : BitVec n) {i : Nat} (j : Nat) (h : setHas w i = true) : setHas (setAdd w j) i = true := by
  simp only [setHas, setAdd, BitVec.getLsbD_or] at h ⊢
  rw [h, Bool.true_or]

theorem setHas_setAdd_self {n i : Nat} (w : BitVec n) (h : i < n) : setHas (setAdd w i) i = true := by
  simp [setHas, setAdd, h]

namespace State

theorem pendingHas_raise_self (x : EventKind) (s : State) : (s.raise x).pendingHas x = true :=
  setHas_setAdd_self _ (by cases x <;> decide)

theorem pendingHas_haltCause {x : EventKind} (c : HaltCause) (h : s.pendingHas x = true) :
    (s.haltCause c).pendingHas x = true := by
  have entered : (s.enterHaltStopping c).pendingHas x = true := setHas_setAdd _ _ h
  unfold haltCause
  split
  · exact h
  · exact entered
  · exact entered
  · exact entered
  · split <;> exact h
  · split <;> exact h

theorem AgreesWith.pendingHas (x : EventKind) (hx : x ≠ .looseNearFull ∧ x ≠ .feedIdle) (h : t.AgreesWith s) :
    t.pendingHas x = s.pendingHas x := by
  have bit : (0xEFEF#16).getLsbD x.code = true := by revert hx; cases x <;> decide
  have masked (w : BitVec 16) : setHas (steadyEvents w) x.code = setHas w x.code := by
    simp only [setHas, steadyEvents, BitVec.getLsbD_and, bit, Bool.and_true]
  have pending : steadyEvents t.evu.pending = steadyEvents s.evu.pending :=
    show t.steady.evu.pending = s.steady.evu.pending by rw [h.steady_eq]
  rw [State.pendingHas, State.pendingHas, ← masked, pending, masked]

theorem AgreesWith.reason (h : t.AgreesWith s) : t.lsv.reason = s.lsv.reason :=
  show t.steady.lsv.reason = s.steady.lsv.reason by rw [h.steady_eq]

theorem AgreesWith.further (h : t.AgreesWith s) : t.lsv.further = s.lsv.further :=
  show t.steady.lsv.further = s.steady.lsv.further by rw [h.steady_eq]

theorem AgreesWith.arrivalEye (h : t.AgreesWith s) (k : PocketNo) : (t.pocket k).arrivalEye = (s.pocket k).arrivalEye :=
  show (t.pocket k).steady.arrivalEye = (s.pocket k).steady.arrivalEye by rw [steady_pocket_of_eq h]

theorem AgreesWith.unaccounted (h : t.AgreesWith s) (k : PocketNo) :
    (t.pocket k).unaccounted = (s.pocket k).unaccounted :=
  show (t.pocket k).steady.unaccounted = (s.pocket k).steady.unaccounted by rw [steady_pocket_of_eq h]

/-! ## Strays (R64) -/

@[simp] theorem setArrivalEye_keeps (k : PocketNo) (b : Bool) (s : State) :
    (s.setArrivalEye k b).trk = s.trk ∧ (s.setArrivalEye k b).idu = s.idu ∧ (s.setArrivalEye k b).rte = s.rte
      ∧ (s.setArrivalEye k b).gdr = s.gdr ∧ (s.setArrivalEye k b).dpu = s.dpu ∧ (s.setArrivalEye k b).tbs = s.tbs
      ∧ (s.setArrivalEye k b).lsv = s.lsv ∧ (s.setArrivalEye k b).lnk = s.lnk ∧ (s.setArrivalEye k b).cmp = s.cmp
      ∧ (s.setArrivalEye k b).evu = s.evu ∧ (s.setArrivalEye k b).pending = s.pending := by
  simp [setArrivalEye]

@[simp] theorem setArrivalEye_pocket_same (k : PocketNo) (b : Bool) (s : State) :
    (s.setArrivalEye k b).pocket k = { s.pocket k with arrivalEye := b } := by simp [setArrivalEye]

theorem setArrivalEye_pocket_other (h : j ≠ k) (b : Bool) (s : State) : (s.setArrivalEye k b).pocket j = s.pocket j :=
  pocket_storePocket_other h _ s

theorem faultPocket_of_not_fault (h : (s.pocket k).state ≠ .fault) : s.faultPocket k = State.raise .pocketFault
    (s.storePocket k { s.pocket k with state := .fault, strapTimer := none, strapOrder := none }) := by
  unfold faultPocket
  rw [if_neg h, putPocket_of_not_opened (by simp)]

/-- What a stray can do: mark a DISABLED pocket, nothing to one in UNACCOUNTED or FAULT, and bring any other to FAULT. -/
theorem strayPocket_cases (k : PocketNo) (s : State) :
    ((s.pocket k).state = .disabled ∧ s.strayPocket k = s.storePocket k { s.pocket k with unaccounted := true })
    ∨ (((s.pocket k).state = .unaccounted ∨ (s.pocket k).state = .fault) ∧ s.strayPocket k = s)
    ∨ (((s.pocket k).state ≠ .disabled ∧ (s.pocket k).state ≠ .unaccounted ∧ (s.pocket k).state ≠ .fault)
      ∧ s.strayPocket k = State.raise .pocketFault
        (s.storePocket k { s.pocket k with state := .fault, strapTimer := none, strapOrder := none })) := by
  unfold strayPocket
  split <;> rename_i h
  · exact .inl ⟨h, putPocket_of_not_opened (by simp [h])⟩
  · exact .inr (.inl ⟨.inl h, rfl⟩)
  · exact .inr (.inl ⟨.inr h, rfl⟩)
  all_goals exact .inr (.inr ⟨by simp [h], faultPocket_of_not_fault (by simp [h])⟩)

theorem strayPocket_pocket_other (h : j ≠ k) (s : State) : (s.strayPocket k).pocket j = s.pocket j := by
  rcases strayPocket_cases k s with ⟨-, e⟩ | ⟨-, e⟩ | ⟨-, e⟩ <;> rw [e]
  · exact pocket_storePocket_other h _ s
  · exact pocket_storePocket_other h _ s

theorem strayPocket_pocket_same (k : PocketNo) (s : State) : (s.strayPocket k).pocket k = { s.pocket k with
    state := ((s.strayPocket k).pocket k).state, unaccounted := ((s.strayPocket k).pocket k).unaccounted,
    strapTimer := ((s.strayPocket k).pocket k).strapTimer,
    strapOrder := ((s.strayPocket k).pocket k).strapOrder } := by
  rcases strayPocket_cases k s with ⟨-, e⟩ | ⟨-, e⟩ | ⟨-, e⟩ <;> simp [e]

theorem strayPocket_state (k : PocketNo) (s : State) : ((s.strayPocket k).pocket k).state
    = if (s.pocket k).state = .disabled then .disabled
      else if (s.pocket k).state = .unaccounted then .unaccounted else .fault := by
  rcases strayPocket_cases k s with ⟨h, e⟩ | ⟨h | h, e⟩ | ⟨⟨hd, hu, -⟩, e⟩
  · simp [e, h]
  · simp [e, h]
  · simp [e, h]
  · simp [e, hd, hu]

theorem strayPocket_unaccounted (h : (s.pocket k).state = .disabled) :
    ((s.strayPocket k).pocket k).unaccounted = true := by
  rcases strayPocket_cases k s with ⟨-, e⟩ | ⟨hn | hn, -⟩ | ⟨⟨hd, -⟩, -⟩
  · simp [e]
  · simp [h] at hn
  · simp [h] at hn
  · exact absurd h hd

@[simp] theorem strayPocket_lsv (k : PocketNo) (s : State) : (s.strayPocket k).lsv = s.lsv := by
  rcases strayPocket_cases k s with ⟨-, e⟩ | ⟨-, e⟩ | ⟨-, e⟩ <;> simp [e]

theorem strayPocket_raised (hf : ((s.strayPocket k).pocket k).state = .fault) (hn : (s.pocket k).state ≠ .fault) :
    (s.strayPocket k).pendingHas .pocketFault = true := by
  rcases strayPocket_cases k s with ⟨h, e⟩ | ⟨-, e⟩ | ⟨-, e⟩ <;> rw [e] at hf ⊢
  · simp [h] at hf
  · exact absurd hf hn
  · exact pendingHas_raise_self _ _

theorem strayPocket_strapOrder (h : (s.pocket k).strapOrder ≠ none → (s.pocket k).state = .complete) :
    ((s.strayPocket k).pocket k).strapOrder = none := by
  rcases strayPocket_cases k s with ⟨hs, e⟩ | ⟨hs | hs, e⟩ | ⟨-, e⟩
  · simpa [e, hs] using h
  · simpa [e, hs] using h
  · simpa [e, hs] using h
  · simp [e]

/-- R64: what a stray arrival at pocket `k` leaves before the end of its event. -/
def strayed (k : PocketNo) (s : State) : State := ((s.setArrivalEye k true).strayPocket k).haltCause .strayArrival

theorem execArrival_of_stray (h : s.arrivalMatch k = none) : exec (.arrival k) s = .next (s.strayed k).settle := by
  have unmatched : (s.setArrivalEye k true).arrivalMatch k = none := h
  have arrived : (s.setArrivalEye k true).arrive k = s.strayed k := by
    unfold arrive
    rw [unmatched]
    rfl
  rw [← arrived]
  rfl

@[simp] theorem strayed_keeps (k : PocketNo) (s : State) :
    (s.strayed k).trk = s.trk ∧ (s.strayed k).idu = s.idu ∧ (s.strayed k).rte = s.rte ∧ (s.strayed k).gdr = s.gdr
      ∧ (s.strayed k).dpu = s.dpu ∧ (s.strayed k).tbs = s.tbs ∧ (s.strayed k).lnk = s.lnk ∧ (s.strayed k).cmp = s.cmp
      ∧ (s.strayed k).pending = s.pending ∧ (s.strayed k).evu.enable = s.evu.enable
      ∧ (s.strayed k).evu.counters = s.evu.counters := by
  simp [strayed]

theorem strayed_pocket_other (h : j ≠ k) (s : State) : (s.strayed k).pocket j = s.pocket j := by
  rw [strayed, pocket_haltCause, strayPocket_pocket_other h, setArrivalEye_pocket_other h]

theorem strayed_pocket_same (k : PocketNo) (s : State) : (s.strayed k).pocket k = { s.pocket k with
    arrivalEye := true, state := ((s.strayed k).pocket k).state, unaccounted := ((s.strayed k).pocket k).unaccounted,
    strapTimer := ((s.strayed k).pocket k).strapTimer, strapOrder := ((s.strayed k).pocket k).strapOrder } := by
  have stray := strayPocket_pocket_same k (s.setArrivalEye k true)
  simpa [strayed] using stray

theorem strayed_state (k : PocketNo) (s : State) : ((s.strayed k).pocket k).state
    = if (s.pocket k).state = .disabled then .disabled
      else if (s.pocket k).state = .unaccounted then .unaccounted else .fault := by
  simp [strayed, strayPocket_state]

/-- A stray leaves its pocket in none of the states that the end of an event acts on. -/
theorem strayed_state_rests (k : PocketNo) (s : State) :
    ((s.strayed k).pocket k).state ≠ .complete ∧ ((s.strayed k).pocket k).state ≠ .awaitingRemoval := by
  rw [strayed_state]
  split
  · simp
  · split <;> simp

theorem strayed_strapOrder (h : s.OrdersInPlace) (k : PocketNo) : ((s.strayed k).pocket k).strapOrder = none := by
  rw [strayed, pocket_haltCause]
  exact strayPocket_strapOrder (by simpa using (h k).1)

theorem strayed_lsv (k : PocketNo) (s : State) : (s.strayed k).lsv = (s.haltCause .strayArrival).lsv :=
  haltCause_lsv_congr (by simp) _

theorem strayed_committed (j k : PocketNo) (s : State) :
    ((s.strayed k).pocket j).committed = (s.pocket j).committed := by
  by_cases h : j = k
  · subst h
    rw [strayed_pocket_same]
  · rw [strayed_pocket_other h]

/-- From a quiet state a stray leaves no pocket waiting for R81, R85 or a placement. -/
theorem Quiet.strayed_pockets (h : s.Quiet) (ho : s.OrdersInPlace) (k : PocketNo) :
    (s.strayed k).settle.pkm.pockets = (s.strayed k).pkm.pockets := by
  have slots : s.lnk.slot = none → ∀ k, (s.pocket k).strapOrder = none ∧ (s.pocket k).record = none := h.slots_empty
  obtain ⟨quiet, -⟩ := h
  refine settle_pockets (fun j => ?_) fun hs j => ?_
  · by_cases hj : j = k
    · subst hj
      obtain ⟨complete, removal⟩ := strayed_state_rests j s
      exact ⟨fun h => complete h.1, fun h => removal h.1⟩
    · have tables : (s.strayed k).tbs = s.tbs := by simp
      have same := quiet j
      rw [PocketQuiet] at same ⊢
      rwa [strayed_pocket_other hj, tables]
  · have empty := slots (by simpa using hs) j
    by_cases hj : j = k
    · subst hj
      refine ⟨strayed_strapOrder ho j, ?_⟩
      rw [strayed_pocket_same]
      exact empty.2
    · rwa [strayed_pocket_other hj]

end State
end Sys2Proof.Machine

section
open Sys2Proof Sys2Proof.Machine

/-- Settles O27: a stray marks its pocket or brings it to FAULT and gives LSV its cause; the end of the event leaves a pocket
in such a state there and, from a quiet state, every pocket as it is. -/
theorem strayArrival : Obligations.StrayArrival := by
  intro s k ho hm
  have agrees : (s.strayed k).settle.AgreesWith (s.strayed k) := settle_steady _
  have rests := State.strayed_state_rests k s
  have state : ((s.strayed k).settle.pocket k).state = ((s.strayed k).pocket k).state :=
    State.settle_staysIn rests.1 ⟨rfl, .inl (State.strayed_strapOrder ho k), fun h => absurd h rests.2⟩
  refine ⟨_, State.execArrival_of_stray hm, ?_, ?_, ?_, ?_, ?_, fun d => ?_, fun j => ?_, ?_, ?_, fun hd => ?_,
    fun hq => ?_, fun hf hn => ?_, ?_, ?_, ?_⟩
  · simpa [State.RestKept] using agrees.restKept
  · simpa using tbs_of_steady agrees
  · simpa using trk_of_steady agrees
  · simpa using gdr_of_steady agrees
  · simpa using counters_of_steady agrees
  · have deposits : (s.strayed k).dpu = s.dpu := by simp
    rw [agrees.countingContext, State.countingContext, deposits]
    rfl
  · rw [agrees.committed, State.strayed_committed]
  · rw [agrees.arrivalEye]
    exact congrArg Pocket.arrivalEye (State.strayed_pocket_same k s)
  · rw [state, State.strayed_state]
  · rw [agrees.unaccounted, State.strayed, State.pocket_haltCause]
    exact State.strayPocket_unaccounted (by simpa using hd)
  · have pockets (j : PocketNo) : (s.strayed k).settle.pocket j = (s.strayed k).pocket j := by
      rw [State.pocket, State.pocket, hq.strayed_pockets ho]
    refine ⟨fun j hj => ?_, ?_⟩
    · rw [pockets, State.strayed_pocket_other hj]
    · rw [pockets]
      exact State.strayed_pocket_same k s
  · rw [agrees.pendingHas .pocketFault (by decide), State.strayed]
    rw [state, State.strayed, State.pocket_haltCause] at hf
    exact State.pendingHas_haltCause _ (State.strayPocket_raised hf (by simpa using hn))
  · rw [line_of_steady agrees, State.strayed_lsv]
  · rw [agrees.reason, State.strayed_lsv]
  · rw [agrees.further, State.strayed_lsv]

end

/-! SUPPORT. What an event can do to a pocket on the way to its end, by a deposit's completion or a swap of the banks; and what
a counted note leaves of its deposit. -/

namespace Sys2Proof.Machine

/- One theorem at a time: many at once exhaust the threads. -/
set_option Elab.async false

variable {s t u : State} {j k : PocketNo} {p q : Pocket} {b : Bank} {d : Nat} {c : Context} {e : Entry}

/-! ## What the tests of a pocket's state leave alone -/

namespace Pocket

/-- A pocket record without its state and what its assignment and its closing decide: what the tests of its state leave. -/
def contents (p : Pocket) : Pocket :=
  { p with state := .disabled, assignment := none, limit := 0, short := false, changeover := false }

@[simp] theorem contents_completionTest (p : Pocket) : p.completionTest.contents = p.contents := by
  unfold completionTest
  repeat' split
  all_goals rfl

@[simp] theorem contents_limitTest (p : Pocket) : p.limitTest.contents = p.contents := by
  unfold limitTest completionTest
  dsimp only
  repeat' split
  all_goals rfl

@[simp] theorem contents_setLimit (p : Pocket) : p.setLimit.contents = p.contents := contents_limitTest { p with limit := _ }

@[simp] theorem contents_enterOpen (p : Pocket) : p.enterOpen.contents = p.contents :=
  contents_limitTest { p with state := .open }

@[simp] theorem contents_takeAssignment (b : Bank) (k : PocketNo) (p : Pocket) :
    (p.takeAssignment b k).contents = p.contents := by
  unfold takeAssignment
  dsimp only
  split
  · rfl
  · split
    · rfl
    · rw [contents_enterOpen]
      rfl

@[simp] theorem contents_closingTest (b : Bank) (k : PocketNo) (p : Pocket) :
    (p.closingTest b k).contents = p.contents := by
  unfold closingTest
  dsimp only
  split
  · split
    · split <;> rfl
    · split <;> simp
  · rfl

@[simp] theorem contents_close (b : Bank) (k : PocketNo) (p : Pocket) : (p.close b k).contents = p.contents :=
  contents_closingTest b k { p with state := .closing }

@[simp] theorem contents_changeBank (b : Bank) (k : PocketNo) (p : Pocket) : (p.changeBank b k).contents = p.contents := by
  unfold changeBank
  dsimp only
  split
  · split
    · split
      · rfl
      · exact contents_enterOpen { p with assignment := _, limit := _ }
    · exact contents_setLimit { p with assignment := _ }
  · split
    · rfl
    · split
      · exact contents_takeAssignment b k { p with changeover := true }
      · exact contents_takeAssignment b k { p with changeover := true }
      · exact contents_close b k { p with changeover := true }
      · exact contents_close b k { p with changeover := true }
      all_goals rfl

theorem fields_of_contents (h : q.contents = p.contents) : q.committed = p.committed ∧ q.arrivalEye = p.arrivalEye
    ∧ q.emptyEye = p.emptyEye ∧ q.strapOrder = p.strapOrder ∧ q.record = p.record := by
  simp only [contents, Pocket.mk.injEq] at h
  simp [h]

/-! ## States that a change of banks and a closing leave -/

/-- The pocket's state is one that neither a change of banks (R91) nor the end of a deposit (R89) takes it from. -/
def Unmoved (p : Pocket) : Prop := p.state ≠ .disabled ∧ p.state ≠ .unaccounted ∧ p.state ≠ .open ∧ p.state ≠ .full

theorem changeBank_state (h : p.Unmoved) (b : Bank) (k : PocketNo) : (p.changeBank b k).state = p.state := by
  obtain ⟨hd, hu, ho, hf⟩ := h
  unfold changeBank
  dsimp only
  split
  · simp [setLimit, limitTest, completionTest, ho, hf]
  · split
    · rfl
    · split <;> simp_all

theorem isLoose_of_isStrapped (h : p.isStrapped = true) : p.isLoose = false := by
  unfold isStrapped at h
  unfold isLoose
  split at h
  · split at h <;> simp_all
  · cases h

/-- The pocket is in use and holds notes, and its bundle cannot be waiting for its removal: another note is committed to it, or
it is a strapped sort pocket. -/
structure Continues (k : PocketNo) (p : Pocket) : Prop where
  known : p.state ≠ .disabled ∧ p.state ≠ .unaccounted
  present : p.state ≠ .awaitingRemoval
  held : 0 < p.held
  further : 0 < p.committed ∨ (p.isStrapped = true ∧ 2 ≤ k.val)

/-- A pocket with no note committed to it is a strapped one. -/
theorem Continues.strapped (h : p.Continues k) (hc : p.committed = 0) : p.isStrapped = true ∧ p.isLoose = false := by
  obtain ⟨strapped, -⟩ := h.further.resolve_left (by omega)
  exact ⟨strapped, isLoose_of_isStrapped strapped⟩

theorem Continues.completionTest (h : p.Continues k) : p.completionTest.Continues k := by
  unfold Pocket.completionTest
  split
  · next hc =>
    obtain ⟨strapped, loose⟩ := h.strapped hc.2.1
    simp only [strapped, loose]
    exact ⟨by simp, by simp, h.held, h.further⟩
  · exact h

theorem Continues.limitTest (h : p.Continues k) : p.limitTest.Continues k := by
  have moved {st : PocketState} (hst : st = .open ∨ st = .full) : Continues k { p with state := st } :=
    ⟨by rcases hst with rfl | rfl <;> simp, by rcases hst with rfl | rfl <;> simp, h.held, h.further⟩
  have tested {x : Pocket} (hx : x.Continues k) : (if x.isLoose then x.completionTest else x).Continues k := by
    split
    · exact hx.completionTest
    · exact hx
  unfold Pocket.limitTest
  dsimp only
  split
  · exact tested (moved (.inr rfl))
  · split
    · exact tested (moved (.inl rfl))
    · exact tested h

theorem Continues.closingTest (h : p.Continues k) (b : Bank) : (p.closingTest b k).Continues k := by
  unfold Pocket.closingTest
  dsimp only
  split
  · next hc =>
    obtain ⟨-, loose⟩ := h.strapped hc.2
    simp only [h.held, loose]
    exact ⟨by simp, by simp, h.held, h.further⟩
  · exact h

theorem Continues.close (h : p.Continues k) (b : Bank) : (p.close b k).Continues k := by
  have closing : Continues k { p with state := .closing } := ⟨by simp, by simp, h.held, h.further⟩
  exact closing.closingTest b

theorem Continues.changeBank (h : p.Continues k) (b : Bank) : (p.changeBank b k).Continues k := by
  have marked : Continues k { p with changeover := true } := ⟨h.known, h.present, h.held, h.further⟩
  unfold Pocket.changeBank
  dsimp only
  split
  · next hk =>
    have sort : ¬ 2 ≤ k.val := by rcases hk with rfl | rfl <;> decide
    have committed : 0 < p.committed := h.further.resolve_right fun hs => sort hs.2
    rw [if_neg h.known.1]
    exact Continues.limitTest ⟨h.known, h.present, h.held, .inl committed⟩
  · split
    · exact ⟨h.known, h.present, h.held, h.further⟩
    · split <;> rename_i hs
      · exact absurd hs h.known.1
      · exact absurd hs h.known.2
      · exact marked.close b
      · exact marked.close b
      all_goals exact marked

/-! ## The changes of a pocket on the way to the end of an event -/

/-- What may come over pocket `k` from elsewhere in an event: a change of banks (R91), or, in OPEN or FULL, its closing at the
end of a deposit (R89). -/
inductive Revised (k : PocketNo) : Pocket → Pocket → Prop
  | bank (b : Bank) (p : Pocket) : Revised k p (p.changeBank b k)
  | closed (b : Bank) (p : Pocket) (h : p.state = .open ∨ p.state = .full) : Revised k p (p.close b k)

theorem Revised.contents (h : Revised k p q) : q.contents = p.contents := by
  cases h <;> simp

theorem Revised.state (h : Revised k p q) (hp : p.Unmoved) : q.state = p.state := by
  cases h with
  | bank b => exact changeBank_state hp b k
  | closed b _ hs =>
    obtain ⟨-, -, ho, hf⟩ := hp
    exact absurd hs (not_or.mpr ⟨ho, hf⟩)

theorem Continues.revised (hp : p.Continues k) (h : Revised k p q) : q.Continues k := by
  cases h with
  | bank b => exact hp.changeBank b
  | closed b => exact hp.close b

end Pocket

namespace State

/-- Changes from elsewhere lead pocket `k` from `s` to `t`. -/
def Revises (k : PocketNo) (s t : State) : Prop := Relation.ReflTransGen (Pocket.Revised k) (s.pocket k) (t.pocket k)

theorem Revises.keeps {P : Pocket → Prop} (h : Revises k s t) (step : ∀ {p q}, P p → Pocket.Revised k p q → P q)
    (hs : P (s.pocket k)) : P (t.pocket k) := by
  unfold Revises at h
  generalize t.pocket k = q at h ⊢
  induction h with
  | refl => exact hs
  | tail _ r ih => exact step ih r

theorem Revises.contents (h : Revises k s t) : (t.pocket k).contents = (s.pocket k).contents :=
  h.keeps (P := fun p => p.contents = (s.pocket k).contents) (fun hp r => r.contents.trans hp) rfl

theorem Revises.state (h : Revises k s t) (hs : (s.pocket k).Unmoved) : (t.pocket k).state = (s.pocket k).state := by
  refine (h.keeps (P := fun p => p.Unmoved ∧ p.state = (s.pocket k).state) ?_ ⟨hs, rfl⟩).2
  rintro p q ⟨unmoved, same⟩ r
  have state := r.state unmoved
  exact ⟨by rw [Pocket.Unmoved, state]; exact unmoved, state.trans same⟩

theorem Revises.of_pockets (h : t.pkm.pockets = s.pkm.pockets) : Revises k s t := by
  have same : t.pocket k = s.pocket k := by rw [pocket, pocket, h]
  rw [Revises, same]

theorem Revises.refl (k : PocketNo) (s : State) : Revises k s s := Relation.ReflTransGen.refl

theorem Revises.trans (h : Revises k s t) (g : Revises k t u) : Revises k s u := Relation.ReflTransGen.trans h g

theorem Revises.ite {c : Prop} [Decidable c] (h : c → Revises k s t) (g : ¬ c → Revises k s u) :
    Revises k s (if c then t else u) := by
  split
  · exact h ‹_›
  · exact g ‹_›

theorem Revises.foldl {α : Type} {f : State → α → State} (h : ∀ s a, Revises k s (f s a)) (l : List α) (s : State) :
    Revises k s (l.foldl f s) := by
  induction l generalizing s with
  | nil => exact .refl k s
  | cons a l ih => exact (h s a).trans (ih (f s a))

theorem closePure_revises (d : Nat) (k : PocketNo) (s : State) : Revises k s (s.closePure d) := by
  refine .foldl (fun s j => .ite (fun h => ?_) fun _ => .refl k s) allPockets s
  by_cases hk : k = j
  · subst hk
    have filling : (s.pocket k).state = .open ∨ (s.pocket k).state = .full := by
      simp only [Pocket.holdsOnly, Bool.and_eq_true, decide_eq_true_eq] at h
      exact h.1.2
    refine .single ?_
    rw [reenterPocket_pocket_same]
    exact .closed _ _ filling
  · unfold Revises
    rw [pocket_reenterPocket_other hk]

theorem changeBanks_revises (k : PocketNo) (s : State) : Revises k s s.changeBanks := by
  refine .foldl (fun s j => ?_) allPockets s
  by_cases hk : k = j
  · subst hk
    refine .single ?_
    rw [putPocket_pocket_same]
    exact .bank _ _
  · unfold Revises
    rw [pocket_putPocket_other hk]

theorem swapTrigger_revises (k : PocketNo) (s : State) : Revises k s s.swapTrigger := by
  have exchanged : Revises k s { s with tbs := s.tbs.exchange } := .of_pockets rfl
  have latched : Revises k (State.changeBanks { s with tbs := s.tbs.exchange }) s.swap := .of_pockets (by simp [swap])
  exact .ite (fun _ => exchanged.trans ((changeBanks_revises k _).trans latched)) fun _ => .refl k s

theorem reportEmpty_revises (k : PocketNo) (s : State) : Revises k s s.reportEmpty := by
  have ready : Revises k s { s with lsv := { s.lsv with line := .ready } } := .of_pockets rfl
  have drained : Revises k s (if s.lsv.line = .drain then s.enterReady else s) :=
    .ite (fun _ => ready.trans (swapTrigger_revises k _)) fun _ => .refl k s
  exact .ite (fun _ => drained.trans (swapTrigger_revises k _)) fun _ => drained

theorem removeEntry_revises (seq : Nat) (k : PocketNo) (s : State) : Revises k s (s.removeEntry seq) := by
  have dropped : Revises k s (s.dropEntry seq) := .of_pockets (by simp)
  exact .ite (fun _ => dropped.trans (reportEmpty_revises k _)) fun _ => dropped

theorem updateContext_revises (d : Nat) (f : Context → Context) (k : PocketNo) (s : State) :
    Revises k s (s.updateContext d f) := .of_pockets rfl

theorem completeDeposit_revises (d : Nat) (k : PocketNo) (s : State) : Revises k s (s.completeDeposit d) := by
  have ordered (u : State) (l : List Nat) : Revises k u { u with dpu := { u.dpu with completion := l } } :=
    .of_pockets rfl
  exact (updateContext_revises d _ k s).trans ((ordered _ _).trans (closePure_revises d k _))

theorem completionTest_revises (d : Nat) (k : PocketNo) (s : State) : Revises k s (s.completionTest d) := by
  unfold completionTest
  split
  · exact .ite (fun _ => completeDeposit_revises d k s) fun _ => .refl k s
  · exact .refl k s

theorem countDelivery_revises (e : Entry) (k : PocketNo) (s : State) : Revises k s (s.countDelivery e) := by
  unfold countDelivery
  split
  · exact (updateContext_revises _ _ k s).trans (completionTest_revises _ k _)
  · exact .refl k s

theorem countInDoubt_revises (e : Entry) (k : PocketNo) (s : State) : Revises k s (s.countInDoubt e) := by
  unfold countInDoubt
  split
  · exact (updateContext_revises _ _ k s).trans (completionTest_revises _ k _)
  · exact .ite (fun _ => .refl k s) fun _ => .of_pockets rfl

/-! ## A note counted in its deposit (R110, R112) -/

theorem countingContext_updateContext {f : Context → Context} (hc : ∀ c, (f c).counting = c.counting)
    (hs : ∀ c, (f c).seq = c.seq) (d : Nat) (s : State) :
    (s.updateContext d f).countingContext d = (s.countingContext d).map f :=
  countingContext_of_map hc hs (by simp [@eq_comm _ d])

/-- What the context of a deposit that takes deliveries is. -/
theorem of_countingContext (h : s.countingContext d = some c) :
    c ∈ s.dpu.contexts ∧ c.counting = true ∧ c.seq = d := by
  refine ⟨List.mem_of_find?_eq_some h, ?_⟩
  simpa using List.find?_some h

/-- R110: completion leaves no context of the deposit that takes deliveries. -/
theorem completeDeposit_countingContext (d : Nat) (s : State) : (s.completeDeposit d).countingContext d = none := by
  refine List.find?_eq_none.mpr fun x hx => ?_
  obtain ⟨a, -, rfl⟩ : ∃ a ∈ s.dpu.contexts,
      (if a.counting = true ∧ a.seq = d then { a with state := .recordPending } else a) = x := by
    simpa [completeDeposit] using hx
  split
  · simp [Context.counting]
  · next h => simpa using h

theorem completeDeposit_awaits (h : s.countingContext d = some c) (hn : (s.dpu.contexts.map Context.seq).Nodup) :
    AwaitsRecord { c with state := .recordPending } (s.completeDeposit d) := by
  obtain ⟨hm, hc, rfl⟩ := of_countingContext h
  have contexts : (s.completeDeposit c.seq).dpu.contexts = s.dpu.contexts.map fun x =>
      if x.counting = true ∧ x.seq = c.seq then { x with state := .recordPending } else x := by simp [completeDeposit]
  have same : Context.seq ∘ (fun x : Context =>
      if x.counting = true ∧ x.seq = c.seq then { x with state := .recordPending } else x) = Context.seq := by
    funext x
    simp only [Function.comp]
    split <;> rfl
  refine ⟨?_, rfl, by simp [completeDeposit], ?_⟩
  · rw [contexts]
    exact List.mem_map.mpr ⟨c, hm, if_pos ⟨hc, rfl⟩⟩
  · rwa [contexts, List.map_map, same]

section Counted

variable {f : Context → Context} (hc : ∀ c, (f c).counting = c.counting) (hs : ∀ c, (f c).seq = c.seq)
include hc hs

/-- A deposit that is not DRAINING, or has notes left in transit, goes on with the note counted. -/
theorem counted_goesOn (h : s.countingContext d = some c) (hn : (f c).state = .draining → 0 < (f c).inTransit) :
    ((s.updateContext d f).completionTest d).countingContext d = some (f c) := by
  have counted := countingContext_updateContext hc hs d s
  rw [h, Option.map_some] at counted
  have goesOn : ¬ ((f c).state = .draining ∧ (f c).inTransit = 0) := fun ⟨hd, h0⟩ => (hn hd).ne' h0
  unfold completionTest
  rw [counted]
  dsimp only
  rw [if_neg goesOn, counted]

/-- R110: the last note of a DRAINING deposit completes it with that note counted. -/
theorem counted_completes (h : s.countingContext d = some c) (hd : (f c).state = .draining) (h0 : (f c).inTransit = 0)
    (hn : (s.dpu.contexts.map Context.seq).Nodup) :
    ((s.updateContext d f).completionTest d).countingContext d = none
      ∧ AwaitsRecord { f c with state := .recordPending } ((s.updateContext d f).completionTest d) := by
  have counted := countingContext_updateContext hc hs d s
  rw [h, Option.map_some] at counted
  have same : Context.seq ∘ (fun x => if x.counting = true ∧ x.seq = d then f x else x) = Context.seq := by
    funext x
    simp only [Function.comp]
    split <;> simp [hs]
  have distinct : ((s.updateContext d f).dpu.contexts.map Context.seq).Nodup := by
    rwa [updateContext_dpu_contexts, List.map_map, same]
  have completes : (s.updateContext d f).completionTest d = (s.updateContext d f).completeDeposit d := by
    unfold completionTest
    rw [counted]
    exact if_pos ⟨hd, h0⟩
  rw [completes]
  exact ⟨completeDeposit_countingContext d _, completeDeposit_awaits counted distinct⟩

end Counted

theorem AwaitsRecord.completedIn (h : AwaitsRecord c s) (hd : t.dpu = s.dpu) : t.settle.CompletedIn c :=
  settle_completedIn (h.congr hd)

/-! ## The entry leaves the queue (R9) -/

theorem dropEntry_trk (seq : Nat) (s : State) : (s.dropEntry seq).trk
    = { s.trk with queue := s.trk.queue.filter (fun x => x.seq != seq) } := by
  simp [dropEntry]

theorem removeEntry_trk (seq : Nat) (s : State) : (s.removeEntry seq).trk
    = { s.trk with queue := s.trk.queue.filter (fun x => x.seq != seq) } := by
  rw [← dropEntry_trk]
  unfold removeEntry
  dsimp only
  split
  · exact (reportEmpty_keeps _).1
  · rfl

end State
end Sys2Proof.Machine

/-! SUPPORT. An entry that no arrival answers, and the statement about missing arrivals. -/

namespace Sys2Proof.Machine

/- One theorem at a time: many at once exhaust the threads. -/
set_option Elab.async false

variable {s t : State} {j k : PocketNo} {p : Pocket} {d seq : Nat} {c : Context} {e : Entry} {m : Position}

/-! ## The pocket of a missing note (R66, R76) -/

namespace Pocket

theorem dropContribution_keeps (k : PocketNo) (d : Nat) (p : Pocket) :
    (p.dropContribution k d).state = p.state ∧ (p.dropContribution k d).committed = p.committed := by
  unfold dropContribution
  dsimp only
  split
  · exact ⟨rfl, rfl⟩
  · split <;> exact ⟨rfl, rfl⟩

theorem withdrawCounts_committed (k : PocketNo) (d : Nat) (p : Pocket) :
    (p.withdrawCounts k d).committed = p.committed - 1 := by
  unfold withdrawCounts
  dsimp only
  split <;> rw [(dropContribution_keeps k d _).2]

theorem withdraw_committed (b : Bank) (k : PocketNo) (d : Nat) (p : Pocket) :
    (p.withdraw b k d).committed = p.committed - 1 := by
  have tested : (p.withdraw b k d).contents = (p.withdrawCounts k d).contents := by
    unfold withdraw
    dsimp only
    rw [contents_closingTest]
    split <;> rfl
  exact (fields_of_contents tested).1.trans (withdrawCounts_committed k d p)

end Pocket

namespace State

theorem missPocket_state (k : PocketNo) (d : Nat) (s : State) : ((s.missPocket k d).pocket k).state = .fault := by
  unfold missPocket
  dsimp only
  split <;> exact faultPocket_state k _

theorem missPocket_pocket_other (h : j ≠ k) (d : Nat) (s : State) : (s.missPocket k d).pocket j = s.pocket j := by
  unfold missPocket
  dsimp only
  split
  · rw [pocket_faultPocket_other h, pocket_storePocket_other h]
  · rw [pocket_faultPocket_other h, withdraw, pocket_putPocket_other h]

theorem missPocket_committed (k : PocketNo) (d : Nat) (s : State) :
    ((s.missPocket k d).pocket k).committed = (s.pocket k).committed - 1 := by
  unfold missPocket
  dsimp only
  split
  · rw [faultPocket_committed, pocket_storePocket_same, Pocket.withdrawCounts_committed]
  · rw [faultPocket_committed, withdraw, putPocket_pocket_same, Pocket.withdraw_committed]

/-! ## The line (R146, R148) -/

theorem swapTrigger_line (h : s.lsv.line ≠ .standby) : s.swapTrigger.lsv.line = s.lsv.line := by
  have before : (State.raise .bankSwapped
      (State.setBlocked 0 (State.changeBanks { s with tbs := s.tbs.exchange }))).lsv.line = s.lsv.line := by simp
  unfold swapTrigger
  split
  · unfold swap leaveStandby
    rw [before, if_neg h, before]
  · rfl

/-- R143: the report of an empty queue never brings the line to STANDBY. -/
theorem removeEntry_line (seq : Nat) (h : s.lsv.line ≠ .standby) : (s.removeEntry seq).lsv.line ≠ .standby := by
  have either {x : Prop} [Decidable x] {u v : State} (hu : u.lsv.line ≠ .standby) (hv : v.lsv.line ≠ .standby) :
      (if x then u else v).lsv.line ≠ .standby := by split <;> assumption
  have swapped {u : State} (hu : u.lsv.line ≠ .standby) : u.swapTrigger.lsv.line ≠ .standby := by
    rwa [swapTrigger_line hu]
  have ready (u : State) : u.enterReady.lsv.line ≠ .standby := swapped (by simp)
  have dropped : (s.dropEntry seq).lsv.line ≠ .standby := by simpa using h
  have drained := either (x := (s.dropEntry seq).lsv.line = .drain) (ready (s.dropEntry seq)) dropped
  exact either (either (swapped drained) drained) dropped

/-- R148: outside STANDBY a halt cause leaves the line in HALT with the cause as its reason or among the further causes. -/
theorem haltCause_taken (c : HaltCause) (h : s.lsv.line ≠ .standby) : (s.haltCause c).lsv.line.isHalt = true
    ∧ ((s.haltCause c).lsv.reason = some c ∨ setHas (s.haltCause c).lsv.further c.code = true) := by
  have entered : (s.enterHaltStopping c).lsv.line.isHalt = true
      ∧ ((s.enterHaltStopping c).lsv.reason = some c ∨ setHas (s.enterHaltStopping c).lsv.further c.code = true) :=
    ⟨rfl, .inl rfl⟩
  have added (w : BitVec 8) : setHas (setAdd w c.code) c.code = true := setHas_setAdd_self w (by cases c <;> decide)
  unfold haltCause
  split <;> rename_i hl
  · exact absurd hl h
  · exact entered
  · exact entered
  · exact entered
  · split
    · exact ⟨by rw [hl]; rfl, .inl ‹_›⟩
    · exact ⟨by rw [hl]; rfl, .inr (added _)⟩
  · split
    · exact ⟨by rw [hl]; rfl, .inl ‹_›⟩
    · exact ⟨by rw [hl]; rfl, .inr (added _)⟩

/-! ## A missing arrival in the whole part (R66) -/

theorem windowEnd_of_missing (he : s.entry seq = some e) (hk : e.pocket = some k) (hm : e.windowEnd = some m)
    (hs : e.arrivalSeen = false) (hr : (s.trk.position - (m + 1)).toNat < 32768) :
    exec (.windowEndExpiry seq) s = .next (s.missEntry k e).settle := by
  have passed : reached s.trk.position (m + 1#16) = true := decide_eq_true hr
  have due : s.windowDue seq = true := by simp [windowDue, he, hm, hs, passed]
  have missing : s.expireWindow seq = s.missEntry k e := by simp [expireWindow, he, hm, hk, hs, passed]
  rw [← missing]
  exact congrArg Host.Outcome.next (if_pos due)

theorem leaveGateOf_revises (e : Entry) (k : PocketNo) (s : State) : Revises k s (s.leaveGateOf e) :=
  .of_pockets (by simp)

theorem haltCause_revises (c : HaltCause) (k : PocketNo) (s : State) : Revises k s (s.haltCause c) :=
  .of_pockets (by simp)

/-- R66: after the withdrawal and FAULT, only a deposit's completion and a swap can come over a pocket. -/
theorem missEntry_revises (j k : PocketNo) (e : Entry) (s : State) :
    Revises j (s.missPocket k e.depositKey) (s.missEntry k e) :=
  (((countInDoubt_revises e j _).trans (leaveGateOf_revises e j _)).trans (removeEntry_revises e.seq j _)).trans
    (haltCause_revises _ j _)

theorem Revises.committed (h : Revises k s t) : (t.pocket k).committed = (s.pocket k).committed :=
  (Pocket.fields_of_contents h.contents).1

theorem missEntry_state (k : PocketNo) (e : Entry) (s : State) : ((s.missEntry k e).pocket k).state = .fault := by
  have fault := missPocket_state k e.depositKey s
  rw [(missEntry_revises k k e s).state (by simp [Pocket.Unmoved, fault]), fault]

theorem missEntry_committed (k : PocketNo) (e : Entry) (s : State) :
    ((s.missEntry k e).pocket k).committed = (s.pocket k).committed - 1 := by
  rw [(missEntry_revises k k e s).committed, missPocket_committed]

theorem missEntry_committed_other (h : j ≠ k) (e : Entry) (s : State) :
    ((s.missEntry k e).pocket j).committed = (s.pocket j).committed := by
  rw [(missEntry_revises j k e s).committed, missPocket_pocket_other h]

theorem missEntry_trk (k : PocketNo) (e : Entry) (s : State) : (s.missEntry k e).trk
    = { s.trk with queue := s.trk.queue.filter (fun x => x.seq != e.seq) } := by
  simp [missEntry, removeEntry_trk]

theorem missEntry_gates (hk : e.pocket = some k) (s : State) : (s.missEntry k e).gdr.gates
    = if e.state = .deflecting then s.gdr.gates.set k s.gdr.gates[k].minusOne else s.gdr.gates := by
  simp [missEntry, leaveGateOf_gates hk]

theorem missEntry_dpu (k : PocketNo) (e : Entry) (s : State) :
    (s.missEntry k e).dpu = ((s.missPocket k e.depositKey).countInDoubt e).dpu := by
  simp [missEntry]

theorem missEntry_counters (k : PocketNo) (e : Entry) (s : State) : (s.missEntry k e).evu.counters
    = if e.deposit = none ∧ e.isCard = false then (s.bump .orphanInDoubt).evu.counters else s.evu.counters := by
  have counted (u : State) (hu : u.evu.counters = s.evu.counters) : (u.countInDoubt e).evu.counters
      = if e.deposit = none ∧ e.isCard = false then (s.bump .orphanInDoubt).evu.counters else s.evu.counters := by
    unfold countInDoubt
    split
    · next d hd => simp [hd, hu]
    · next hn => cases hc : e.isCard <;> simp [hn, hu]
  have missed := counted (s.missPocket k e.depositKey) (by simp)
  rw [← missed]
  simp [missEntry]

theorem missEntry_line (k : PocketNo) (e : Entry) (h : s.lsv.line ≠ .standby) :
    (s.missEntry k e).lsv.line.isHalt = true ∧ ((s.missEntry k e).lsv.reason = some .missingArrival
      ∨ setHas (s.missEntry k e).lsv.further HaltCause.missingArrival.code = true) :=
  haltCause_taken _ (removeEntry_line _ (by simpa using h))

/-- R114: a note of the deposit passes from in transit to in doubt. -/
def doubted (c : Context) : Context := { c with inTransit := c.inTransit - 1, inDoubt := c.inDoubt + 1 }

/-- R114, R110: a note in doubt leaves its deposit's context so. -/
theorem missEntry_inDoubt (k : PocketNo) (hd : e.deposit = some d) (hc : s.countingContext d = some c) :
    State.InDoubtBy 1 d c s (s.missEntry k e).settle := by
  have agrees : (s.missEntry k e).settle.AgreesWith (s.missEntry k e) := settle_steady _
  have before : (s.missPocket k e.depositKey).dpu = s.dpu := by simp
  have context : (s.missPocket k e.depositKey).countingContext d = some c := by
    rw [countingContext, before]
    exact hc
  have counted : (s.missEntry k e).dpu
      = (((s.missPocket k e.depositKey).updateContext d doubted).completionTest d).dpu := by
    rw [missEntry_dpu, countInDoubt, hd]
    rfl
  have found : (s.missEntry k e).settle.countingContext d
      = (((s.missPocket k e.depositKey).updateContext d doubted).completionTest d).countingContext d := by
    rw [agrees.countingContext, countingContext, counted]
    rfl
  rw [InDoubtBy, found]
  refine ⟨fun hn => ?_, fun hs _ h1 distinct => ?_⟩
  · refine counted_goesOn (fun _ => rfl) (fun _ => rfl) context fun hs => ?_
    rcases hn with active | more | none
    · exact absurd (active.symm.trans hs) (by decide)
    · exact Nat.sub_pos_of_lt more
    · exact absurd none (by decide)
  · have last : c.inTransit - 1 = 0 := by omega
    obtain ⟨done, awaits⟩ :=
      counted_completes (f := doubted) (fun _ => rfl) (fun _ => rfl) context hs last (by rwa [before])
    refine ⟨done, ?_⟩
    simp only [doubted, last] at awaits
    exact awaits.completedIn counted

end State
end Sys2Proof.Machine

section
open Sys2Proof Sys2Proof.Machine

/-- Settles O23: the event is the withdrawal with FAULT, the note in doubt, the gate, the removal and the halt cause; a pocket in
FAULT stays there through a completion, a swap and the end of the event. -/
theorem windowEnds : Obligations.WindowEnds := by
  intro s seq e k m ho he hk hm hs hr
  obtain rfl : e.seq = seq := State.seq_of_entry he
  have agrees : (s.missEntry k e).settle.AgreesWith (s.missEntry k e) := settle_steady _
  have fault := State.missEntry_state k e s
  have placed : (s.missEntry k e).OrdersInPlace := by
    obtain ⟨-, -, -, -, -, orders⟩ := (State.missEntry_bounds k e s).kept
    exact orders ho
  have noOrder : ((s.missEntry k e).pocket k).strapOrder = none := by
    by_contra h
    exact absurd (((placed k).1 h).symm.trans fault) (by decide)
  refine ⟨_, State.windowEnd_of_missing he hk hm hs hr, ?_, fun j hj => ?_, ?_, ?_, ?_, ?_,
    fun d c hd hc => State.missEntry_inDoubt k hd hc, ?_, fun hl => ?_⟩
  · simpa [State.RestKept, State.missEntry] using agrees.restKept
  · rw [agrees.committed, State.missEntry_committed_other hj]
  · rw [trk_of_steady agrees, State.missEntry_trk]
  · exact State.settle_staysIn (by decide) ⟨fault, .inl noOrder, fun h => absurd h (by decide)⟩
  · rw [agrees.committed, State.missEntry_committed]
  · rw [gdr_of_steady agrees, State.missEntry_gates hk]
  · rw [counters_of_steady agrees, State.missEntry_counters]
  · rw [line_of_steady agrees, agrees.reason, agrees.further]
    exact State.missEntry_line k e hl

end

/-! SUPPORT. A matched arrival in its pocket and in its deposit, and the statement about deliveries. -/

namespace Sys2Proof.Machine

/- One theorem at a time: many at once exhaust the threads. -/
set_option Elab.async false

variable {s t : State} {j k : PocketNo} {p q : Pocket} {b : Bank} {d : Nat} {c x : Context} {e : Entry} {card : Bool}

/-! ## A delivery in a pocket record (Table 4-2, R78) -/

namespace Pocket

/-- Table 4-2: a committed note of deposit `d` is a delivered one in pocket `k`, in its list or, at pocket 1, unlisted. -/
def moveNote (k : PocketNo) (d : Nat) (p : Pocket) : Pocket :=
  { p with
    contributions := deliveredIn d p.contributions
    unlistedCommitted :=
      if k = pocket1 ∧ ∀ c ∈ p.contributions, c.deposit ≠ d then p.unlistedCommitted - 1 else p.unlistedCommitted
    unlistedDelivered :=
      if k = pocket1 ∧ ∀ c ∈ p.contributions, c.deposit ≠ d then p.unlistedDelivered + 1 else p.unlistedDelivered }

/-- Table 4-2: pocket `k` after the delivery of a note of deposit `d`, before the tests of its state. -/
def received (k : PocketNo) (d : Nat) (card : Bool) (p : Pocket) : Pocket :=
  moveNote k d { p with
    committed := p.committed - 1
    held := p.held + 1
    cardsHeld := p.cardsHeld + (if k = pocket1 ∧ card = true then 1 else 0) }

theorem listed_eq_false {l : List Contribution} : listed d l = false ↔ ∀ c ∈ l, c.deposit ≠ d := by
  simp [listed]

theorem deliveredIn_of_unlisted {l : List Contribution} (h : ∀ c ∈ l, c.deposit ≠ d) : deliveredIn d l = l := by
  unfold deliveredIn
  conv_rhs => rw [← List.map_id l]
  exact List.map_congr_left fun c hc => if_neg (h c hc)

theorem deliverContribution_eq (k : PocketNo) (d : Nat) (p : Pocket) : p.deliverContribution k d = p.moveNote k d := by
  unfold moveNote
  unfold deliverContribution
  by_cases hl : ∀ c ∈ p.contributions, c.deposit ≠ d
  · rw [if_neg (by rw [listed_eq_false.mpr hl]; decide), deliveredIn_of_unlisted hl]
    by_cases hk : k = pocket1
    · rw [if_pos hk, if_pos ⟨hk, hl⟩, if_pos ⟨hk, hl⟩]
    · rw [if_neg hk, if_neg fun h => hk h.1, if_neg fun h => hk h.1]
  · have unlisted : ¬ (k = pocket1 ∧ ∀ c ∈ p.contributions, c.deposit ≠ d) := fun h => hl h.2
    rw [if_pos (by simpa [listed] using hl), if_neg unlisted, if_neg unlisted]
    rfl

theorem deliver_eq (b : Bank) (k : PocketNo) (d : Nat) (card : Bool) (p : Pocket) :
    p.deliver b k d card = (p.received k d card).completionTest.closingTest b k := by
  have cards : (if card && decide (k = pocket1) then p.cardsHeld + 1 else p.cardsHeld)
      = p.cardsHeld + (if k = pocket1 ∧ card = true then 1 else 0) := by
    cases card <;> by_cases hk : k = pocket1 <;> simp [hk]
  unfold deliver
  rw [cards, deliverContribution_eq]
  rfl

theorem contents_deliver (b : Bank) (k : PocketNo) (d : Nat) (card : Bool) (p : Pocket) :
    (p.deliver b k d card).contents = (p.received k d card).contents := by
  rw [deliver_eq, contents_closingTest, contents_completionTest]

/-- A pocket goes on after a delivery if it was not waiting for its removal and another note is committed to it, or it is a
strapped sort pocket. -/
theorem deliver_continues (known : p.state ≠ .disabled ∧ p.state ≠ .unaccounted) (present : p.state ≠ .awaitingRemoval)
    (further : 2 ≤ p.committed ∨ (p.isStrapped = true ∧ 2 ≤ k.val)) (b : Bank) (d : Nat) (card : Bool) :
    (p.deliver b k d card).Continues k := by
  have counted : (p.received k d card).Continues k :=
    ⟨known, present, Nat.succ_pos p.held, further.imp_left fun h => Nat.sub_pos_of_lt h⟩
  rw [deliver_eq]
  exact counted.completionTest.closingTest b

/-- R78, R81, R85: the last note of a FULL pocket completes its bundle. -/
theorem deliver_last (hs : p.state = .full) (hc : p.committed = 1) (hl : p.held + 1 = p.limit) (b : Bank) (k : PocketNo)
    (d : Nat) (card : Bool) : (p.isStrapped = true → (p.deliver b k d card).state = .complete)
      ∧ (p.isLoose = true → (p.deliver b k d card).state = .awaitingRemoval) := by
  have last : (p.received k d card).state = .full ∧ (p.received k d card).committed = 0
      ∧ (p.received k d card).held = (p.received k d card).limit := ⟨hs, by simp [received, moveNote, hc], hl⟩
  have completes {st : PocketState} (hst : st ≠ .closing)
      (h : (p.received k d card).completionTest = { p.received k d card with state := st }) :
      (p.deliver b k d card).state = st := by
    rw [deliver_eq, h, closingTest, if_neg fun hx => hst hx.1]
  refine ⟨fun strapped => completes (by decide) ?_, fun loose => completes (by decide) ?_⟩
  · have notLoose : (p.received k d card).isLoose = false := isLoose_of_isStrapped strapped
    have stillStrapped : (p.received k d card).isStrapped = true := strapped
    rw [completionTest, if_pos last, notLoose, stillStrapped]
    rfl
  · have stillLoose : (p.received k d card).isLoose = true := loose
    rw [completionTest, if_pos last, stillLoose]
    rfl

/-- The counts of the bundle a pocket holds. -/
def counts (p : Pocket) : Nat × Nat × List Contribution × Nat × Nat :=
  (p.held, p.cardsHeld, p.contributions, p.unlistedCommitted, p.unlistedDelivered)

theorem SameBundle.counts (h : p.SameBundle q) : q.counts = p.counts := by
  obtain ⟨e, -⟩ := h
  rw [e]
  rfl

theorem counts_of_contents (h : q.contents = p.contents) : q.counts = p.counts :=
  show q.contents.counts = p.contents.counts by rw [h]

end Pocket

/-! ## A delivery in a deposit (R113, R116, R117) -/

namespace Context

theorem deliver_fixed (e : Entry) (c : Context) :
    (c.deliver e).seq = c.seq ∧ (c.deliver e).inTransit = c.inTransit - 1 := by
  unfold deliver credit
  dsimp only
  repeat' split
  all_goals exact ⟨rfl, rfl⟩

theorem deliver_counting (e : Entry) (c : Context) : (c.deliver e).counting = c.counting := by
  unfold counting
  rw [deliver_state]

theorem deliver_of_delivered (h : Context.Delivered e c x) : c.deliver e = x := by
  rcases h with ⟨cls, i, f, hd, hi, hf, rfl⟩ | ⟨hd, rfl⟩ | ⟨r, i, hd, hr, rfl⟩
  · unfold deliver credit
    simp only [hd, hi, hf, Option.getD_some]
    split <;> simp
  · unfold deliver
    rw [hd]
  · unfold deliver
    simp only [hd, hr]

end Context

namespace State

/-! ## A matched arrival in the whole part (R63) -/

/-- R63: what a matched arrival of the entry `e` at pocket `k` leaves before the end of its event. -/
def arrived (k : PocketNo) (e : Entry) (s : State) : State := (s.setArrivalEye k true).deliverEntry k e

theorem execArrival_of_match (h : s.arrivalMatch k = some e) : exec (.arrival k) s = .next (s.arrived k e).settle := by
  have matched : (s.setArrivalEye k true).arrivalMatch k = some e := h
  have delivered : (s.setArrivalEye k true).arrive k = s.arrived k e := by
    unfold arrive
    rw [matched]
    rfl
  rw [← delivered]
  rfl

/-- The state of the arrival once the pocket has counted it. -/
def received (k : PocketNo) (e : Entry) (s : State) : State :=
  State.deliverTo k e.depositKey (decide (e.destination = some (.reject .card)))
    ((s.setArrivalEye k true).updateEntry e.seq fun x => { x with arrivalSeen := true })

theorem arrived_eq (k : PocketNo) (e : Entry) (s : State) :
    s.arrived k e = (((s.received k e).countDelivery e).leaveGateOf e).removeEntry e.seq := rfl

@[simp] theorem received_keeps (k : PocketNo) (e : Entry) (s : State) :
    (s.received k e).idu = s.idu ∧ (s.received k e).rte = s.rte ∧ (s.received k e).gdr = s.gdr
      ∧ (s.received k e).dpu = s.dpu ∧ (s.received k e).tbs = s.tbs ∧ (s.received k e).lnk = s.lnk
      ∧ (s.received k e).cmp = s.cmp ∧ (s.received k e).pending = s.pending ∧ (s.received k e).evu = s.evu := by
  simp [received]

theorem received_pocket_same (k : PocketNo) (e : Entry) (s : State) : (s.received k e).pocket k
    = Pocket.deliver s.tbs.active k e.depositKey (decide (e.destination = some (.reject .card)))
      { s.pocket k with arrivalEye := true } := by
  have stored : ((s.setArrivalEye k true).updateEntry e.seq fun x => { x with arrivalSeen := true }).pocket k
      = { s.pocket k with arrivalEye := true } := setArrivalEye_pocket_same k true s
  rw [received, deliverTo, putPocket_pocket_same, stored]
  simp

theorem received_pocket_other (h : j ≠ k) (e : Entry) (s : State) : (s.received k e).pocket j = s.pocket j := by
  rw [received, deliverTo, pocket_putPocket_other h]
  exact setArrivalEye_pocket_other h true s

/-- After the delivery only a deposit's completion and a swap can come over a pocket. -/
theorem arrived_revises (j k : PocketNo) (e : Entry) (s : State) : Revises j (s.received k e) (s.arrived k e) :=
  ((countDelivery_revises e j _).trans (leaveGateOf_revises e j _)).trans (removeEntry_revises e.seq j _)

theorem arrived_contents (k : PocketNo) (e : Entry) (s : State) : ((s.arrived k e).pocket k).contents
    = (Pocket.received k e.depositKey (decide (e.destination = some (.reject .card)))
      { s.pocket k with arrivalEye := true }).contents := by
  rw [(arrived_revises k k e s).contents, received_pocket_same, Pocket.contents_deliver]

/-- A delivery takes one commitment off, and leaves the other eyes and the slots as they are. -/
theorem arrived_fields (k : PocketNo) (e : Entry) (s : State) :
    ((s.arrived k e).pocket k).committed = (s.pocket k).committed - 1
      ∧ ((s.arrived k e).pocket k).arrivalEye = true
      ∧ ((s.arrived k e).pocket k).emptyEye = (s.pocket k).emptyEye
      ∧ ((s.arrived k e).pocket k).strapOrder = (s.pocket k).strapOrder
      ∧ ((s.arrived k e).pocket k).record = (s.pocket k).record := Pocket.fields_of_contents (arrived_contents k e s)

theorem arrived_counts (k : PocketNo) (e : Entry) (s : State) : ((s.arrived k e).pocket k).counts
    = ((s.pocket k).received k (e.deposit.getD 0) (decide (e.destination = some (.reject .card)))).counts :=
  (Pocket.counts_of_contents (arrived_contents k e s)).trans rfl

theorem arrived_lnk (k : PocketNo) (e : Entry) (s : State) : (s.arrived k e).lnk = s.lnk := by simp [arrived_eq]

theorem arrived_committed_other (h : j ≠ k) (e : Entry) (s : State) :
    ((s.arrived k e).pocket j).committed = (s.pocket j).committed := by
  rw [(arrived_revises j k e s).committed, received_pocket_other h]

theorem arrived_trk (k : PocketNo) (e : Entry) (s : State) : (s.arrived k e).trk
    = { s.trk with queue := s.trk.queue.filter (fun x => x.seq != e.seq) } := by
  have seen : (s.received k e).trk = { s.trk with
      queue := s.trk.queue.map fun x => if x.seq = e.seq then { x with arrivalSeen := true } else x } := by
    simp [received, updateEntry]
  have gone (l : List Entry) : (l.map fun x => if x.seq = e.seq then { x with arrivalSeen := true } else x).filter
      (fun x => x.seq != e.seq) = l.filter fun x => x.seq != e.seq := by
    induction l with
    | nil => rfl
    | cons a l ih => by_cases ha : a.seq = e.seq <;> simp [ha, ih]
  have counted : (((s.received k e).countDelivery e).leaveGateOf e).trk = (s.received k e).trk := by simp
  rw [arrived_eq, removeEntry_trk, counted, seen, gone]

theorem arrived_gates (hk : e.pocket = some k) (s : State) : (s.arrived k e).gdr.gates
    = if e.state = .deflecting then s.gdr.gates.set k s.gdr.gates[k].minusOne else s.gdr.gates := by
  simp [arrived_eq, leaveGateOf_gates hk]

/-- The pocket's bundle goes on through the end of the event: its notes are seen, or its removal does not fall due. -/
theorem Quiet.arrived_spared (hq : s.Quiet) (known : (s.pocket k).state ≠ .disabled ∧ (s.pocket k).state ≠ .unaccounted)
    (h : (s.pocket k).emptyEye = true ∨ 2 ≤ (s.pocket k).committed ∨ ((s.pocket k).isStrapped = true ∧ 2 ≤ k.val))
    (e : Entry) : Pocket.Spared ((s.arrived k e).ending k) := by
  obtain ⟨-, -, eye, -, record⟩ := arrived_fields k e s
  unfold Pocket.Spared ending
  dsimp only
  rw [eye, record, arrived_lnk]
  by_cases seen : (s.pocket k).emptyEye = true
  · exact .inl seen
  · by_cases waits : (s.pocket k).state = .awaitingRemoval
    · have occupied : (s.pocket k).record ≠ none := fun hr => (hq.1 k).2 ⟨waits, by simpa using seen, hr⟩
      have frame : s.lnk.slot ≠ none := fun hs => occupied (hq.slots_empty hs k).2
      exact .inr (.inr ⟨occupied, Option.isSome_iff_ne_none.mpr frame⟩)
    · have goesOn : ((s.received k e).pocket k).Continues k := by
        rw [received_pocket_same]
        exact Pocket.deliver_continues (p := { s.pocket k with arrivalEye := true }) known waits (h.resolve_left seen) _ _ _
      exact .inr (.inl ((arrived_revises k k e s).keeps (fun hp r => hp.revised r) goesOn).present)

/-- R78: the last note of a FULL pocket completes its bundle, and a completed bundle stays so through the event. -/
theorem arrived_last (hs : (s.pocket k).state = .full) (hc : (s.pocket k).committed = 1)
    (hl : (s.pocket k).held + 1 = (s.pocket k).limit) (e : Entry) :
    ((s.pocket k).isStrapped = true → ((s.arrived k e).pocket k).state = .complete)
      ∧ ((s.pocket k).isLoose = true → ((s.arrived k e).pocket k).state = .awaitingRemoval) := by
  obtain ⟨strapped, loose⟩ := Pocket.deliver_last (p := { s.pocket k with arrivalEye := true }) hs hc hl s.tbs.active k
    e.depositKey (decide (e.destination = some (.reject .card)))
  rw [← received_pocket_same] at strapped loose
  have kept := (arrived_revises k k e s).state
  refine ⟨fun h => ?_, fun h => ?_⟩
  · have complete := strapped h
    rw [kept (by simp [Pocket.Unmoved, complete]), complete]
  · have removal := loose h
    rw [kept (by simp [Pocket.Unmoved, removal]), removal]

/-- R113, R110: a delivered note leaves its deposit's context so. -/
theorem arrived_delivered (k : PocketNo) (hd : e.deposit = some d) (hc : s.countingContext d = some c)
    (hx : Context.Delivered e c x) :
    ((c.state = .draining → 2 ≤ c.inTransit) → (s.arrived k e).settle.countingContext d = some x)
      ∧ (c.state = .draining → c.inTransit ≤ 1 → (s.dpu.contexts.map Context.seq).Nodup →
        (s.arrived k e).settle.countingContext d = none
          ∧ (s.arrived k e).settle.CompletedIn { x with state := .recordPending }) := by
  obtain rfl := Context.deliver_of_delivered hx
  have agrees : (s.arrived k e).settle.AgreesWith (s.arrived k e) := settle_steady _
  have before : (s.received k e).dpu = s.dpu := by simp
  have context : (s.received k e).countingContext d = some c := by
    rw [countingContext, before]
    exact hc
  have counted : (s.arrived k e).dpu
      = (((s.received k e).updateContext d (Context.deliver e)).completionTest d).dpu := by
    have left (u : State) : ((u.leaveGateOf e).removeEntry e.seq).dpu = u.dpu := by simp
    rw [arrived_eq, left, countDelivery, hd]
  have found : (s.arrived k e).settle.countingContext d
      = (((s.received k e).updateContext d (Context.deliver e)).completionTest d).countingContext d := by
    rw [agrees.countingContext, countingContext, counted]
    rfl
  obtain ⟨-, left⟩ := Context.deliver_fixed e c
  have sequence (c : Context) : (c.deliver e).seq = c.seq := (Context.deliver_fixed e c).1
  rw [found]
  refine ⟨fun hn => ?_, fun hs h1 distinct => ?_⟩
  · refine counted_goesOn (Context.deliver_counting e) sequence context fun hs => ?_
    have more := hn ((Context.deliver_state e c).symm.trans hs)
    omega
  · obtain ⟨done, awaits⟩ := counted_completes (Context.deliver_counting e) sequence context
      ((Context.deliver_state e c).trans hs) (by omega) (by rwa [before])
    exact ⟨done, awaits.completedIn counted⟩

end State
end Sys2Proof.Machine

section
open Sys2Proof Sys2Proof.Machine

/-- Settles O26: the event is the delivery in the pocket, in the deposit and at the gate, and the removal. A completion or a
swap leaves the pocket's counts, and the end of the event does where no REMOVED record falls due. -/
theorem deliveryCounts : Obligations.DeliveryCounts := by
  intro s k e hm
  have agrees : (s.arrived k e).settle.AgreesWith (s.arrived k e) := settle_steady _
  obtain ⟨committed, arrivalEye, emptyEye, order, -⟩ := State.arrived_fields k e s
  refine ⟨_, State.execArrival_of_match hm, ?_, ?_, ?_, ?_, fun j hj => ?_, ?_, ?_, fun hq hd hu hb => ?_,
    fun d c x hd hc hx => State.arrived_delivered k hd hc hx⟩
  · simpa [State.RestKept, State.arrived_eq] using agrees.restKept
  · rw [trk_of_steady agrees, State.arrived_trk]
  · rw [agrees.committed, committed]
  · rw [agrees.arrivalEye, arrivalEye]
  · rw [agrees.committed, State.arrived_committed_other hj]
  · rw [gdr_of_steady agrees, State.arrived_gates (State.pocket_of_arrivalMatch hm)]
  · rw [counters_of_steady agrees, State.arrived_eq]
    simp
  · have same := State.settle_sameBundle (hq.arrived_spared ⟨hd, hu⟩ hb e)
    have counts := same.counts.trans (State.arrived_counts k e s)
    simp only [Pocket.counts, Pocket.received, Pocket.moveNote, Prod.mk.injEq, decide_eq_true_eq] at counts
    obtain ⟨held, cards, contributions, unlistedCommitted, unlistedDelivered⟩ := counts
    refine ⟨held, cards, contributions, ?_, fun hs hc hl => ?_⟩
    · rw [unlistedCommitted, unlistedDelivered]
      split <;> rfl
    · obtain ⟨strapped, loose⟩ := State.arrived_last hs hc hl e
      refine ⟨fun hk _ => ?_, fun hk => ?_⟩
      · rw [← strapped hk]
        exact same.2
      · have seen : (s.pocket k).emptyEye = true := by
          refine hb.resolve_right (not_or.mpr ⟨by omega, fun h => ?_⟩)
          simp [Pocket.isLoose_of_isStrapped h.1] at hk
        have noOrder : ((s.arrived k e).pocket k).strapOrder = none ∨ (s.arrived k e).lnk.slot.isSome = true := by
          rw [order, State.arrived_lnk]
          by_cases hn : s.lnk.slot = none
          · exact .inl (hq.slots_empty hn k).1
          · exact .inr (Option.isSome_iff_ne_none.mpr hn)
        exact State.settle_staysIn (by decide) ⟨loose hk, noOrder, fun _ => emptyEye.trans seen⟩

end

/-! SUPPORT. The end of an event leaves nothing waiting, from every state; and the statement about quiet states. -/

namespace Sys2Proof.Machine

/- One theorem at a time: many at once exhaust the threads. -/
set_option Elab.async false

variable {s t : State} {j k : PocketNo}

namespace State

/-! ## Held-back orders and removals (R81, R85) -/

theorem PocketQuiet.of_pocket (hp : t.pocket k = s.pocket k) (hb : t.tbs = s.tbs) (h : s.PocketQuiet k) :
    t.PocketQuiet k := by
  unfold PocketQuiet at h ⊢
  rwa [hp, hb]

theorem pocket_fillOrder_other (h : j ≠ k) (s : State) : (s.fillOrder k).pocket j = s.pocket j := by
  unfold fillOrder
  dsimp only
  split
  · exact pocket_putPocket_other h _ s
  · rfl

theorem pocket_issueRecord_other (h : j ≠ k) (st : BundleStatus) (s : State) :
    (s.issueRecord k st).pocket j = s.pocket j := by
  rw [issueRecord, pocket_putPocket_other h]
  rfl

theorem pocket_startBundle_other (h : j ≠ k) (s : State) : (s.startBundle k).pocket j = s.pocket j :=
  pocket_reenterPocket_other h _ s

theorem pocket_issueRemoved_other (h : j ≠ k) (s : State) : (s.issueRemoved k).pocket j = s.pocket j := by
  unfold issueRemoved
  dsimp only
  split
  · rw [pocket_startBundle_other h, pocket_issueRecord_other h]
  · rfl

@[simp] theorem startBundle_record (k : PocketNo) (s : State) :
    ((s.startBundle k).pocket k).record = (s.pocket k).record := by
  have same : ((s.startBundle k).pocket k).contents = (s.pocket k).contents := by
    rw [startBundle, reenterPocket_pocket_same]
    split
    · simp
    · exact Pocket.contents_setLimit { s.pocket k with state := .open }
  obtain ⟨-, -, -, -, record⟩ := Pocket.fields_of_contents same
  exact record

/-- What R81 and R85 do to a pocket leaves nothing of theirs waiting there: an issued record occupies its slot, and so does
an order. -/
theorem holdBack_quiet (k : PocketNo) (s : State) : ((s.fillOrder k).issueRemoved k).PocketQuiet k := by
  by_cases hr : ((s.fillOrder k).pocket k).state = .awaitingRemoval ∧ ((s.fillOrder k).pocket k).emptyEye = false
      ∧ ((s.fillOrder k).pocket k).record = none
  · have issued : (((s.fillOrder k).issueRemoved k).pocket k).record ≠ none := by
      unfold issueRemoved
      rw [if_pos hr, startBundle_record, issueRecord_pocket_same]
      exact Option.some_ne_none _
    exact ⟨fun h => issued h.2.2.1, fun h => issued h.2.2⟩
  · have rests : (s.fillOrder k).issueRemoved k = s.fillOrder k := if_neg hr
    rw [rests]
    refine ⟨fun h => ?_, hr⟩
    by_cases ho : (s.pocket k).state = .complete ∧ (s.pocket k).strapOrder = none ∧ (s.pocket k).record = none
        ∧ s.tbs.params.strappingStation ≠ none
    · have filled : ((s.fillOrder k).pocket k).strapOrder ≠ none := by
        unfold fillOrder
        rw [if_pos ho, putPocket_pocket_same]
        exact Option.some_ne_none _
      exact filled h.2.1
    · have idle : s.fillOrder k = s := if_neg ho
      rw [idle] at h
      exact ho h

theorem holdBack_keeps_quiet (h : s.PocketQuiet j) (k : PocketNo) : ((s.fillOrder k).issueRemoved k).PocketQuiet j := by
  by_cases hk : j = k
  · subst hk
    exact holdBack_quiet j s
  · exact h.of_pocket (by rw [pocket_issueRemoved_other hk, pocket_fillOrder_other hk]) (by simp)

/-- After R81 and R85 have been through the pockets, nothing of theirs waits. -/
theorem heldBack_quiet (s : State) (k : PocketNo) : s.heldBack.PocketQuiet k := by
  have visited (l : List PocketNo) (s : State) (h : s.PocketQuiet k ∨ k ∈ l) :
      (l.foldl (fun s j => (s.fillOrder j).issueRemoved j) s).PocketQuiet k := by
    induction l generalizing s with
    | nil => exact h.resolve_right (by simp)
    | cons j l ih =>
      refine ih _ ?_
      rcases h with quiet | hm
      · exact .inl (holdBack_keeps_quiet quiet j)
      · rcases List.mem_cons.mp hm with rfl | hm
        · exact .inl (holdBack_quiet k s)
        · exact .inr hm
  exact visited allPockets s (.inr (mem_allPockets k))

/-! ## The tests at the end of an event (R80, R158, R170) -/

theorem held_hold_self (r : FeedReason) (s : State) : (s.hold r).held r = true :=
  setHas_setAdd_self _ (by cases r <;> decide)

theorem held_release_self (r : FeedReason) (s : State) : (s.release r).held r = false := by
  have small : r.code < 8 := by cases r <;> decide
  simp [held, setHas, release, setDrop, small]

/-- R80: after its test LOOSE_NEAR_FULL equals its condition. -/
theorem nearFullTest_agrees (s : State) : s.nearFullTest.held .looseNearFull
    = ((s.nearFullTest.pocket pocket1).nearFull || (s.nearFullTest.pocket pocket2).nearFull) := by
  have pockets (k : PocketNo) : s.nearFullTest.pocket k = s.pocket k := by simp [pocket]
  rw [pockets, pockets]
  unfold nearFullTest
  split
  · next near =>
    rw [near]
    split
    · assumption
    · exact held_hold_self .looseNearFull s
  · next far =>
    rw [held_release_self]
    exact (Bool.eq_false_iff.mpr far).symm

/-- R158: after its test FEED_IDLE is not due. -/
theorem feedIdleTest_idle (s : State) : s.feedIdleTest.idleDue = false := by
  unfold feedIdleTest
  split
  · simp [idleDue]
  · next h => simpa using h

theorem feedIdleTest_held (r : FeedReason) (s : State) : s.feedIdleTest.held r = s.held r := by
  unfold feedIdleTest
  split <;> rfl

/-- R170: what RECORD_BACKLOG follows. -/
theorem backlogTest_agrees (s : State) :
    (s.backlogTest.recordsWaiting = [] → s.backlogTest.held .recordBacklog = false)
      ∧ (s.backlogTest.recordHeldUp = true → s.backlogTest.held .recordBacklog = true) := by
  have none_waiting (h : s.recordsWaiting = []) : s.recordHeldUp = false := by
    unfold recordHeldUp
    split <;> simp [h]
  unfold backlogTest
  split
  · next h =>
    refine ⟨fun _ => held_release_self .recordBacklog s, fun up => ?_⟩
    have up : s.recordHeldUp = true := up
    simp [none_waiting (by simpa using h)] at up
  · next h =>
    have waiting : s.recordsWaiting ≠ [] := by simpa using h
    split
    · exact ⟨fun e => absurd e waiting, fun _ => held_hold_self .recordBacklog s⟩
    · next up => exact ⟨fun e => absurd e waiting, fun e => absurd e up⟩

theorem backlogTest_held {r : FeedReason} (h : r ≠ .recordBacklog) (s : State) : s.backlogTest.held r = s.held r := by
  unfold backlogTest
  split
  · exact held_release_other h s
  · split
    · exact held_hold_other h s
    · rfl

/-! ## The arbiter's placement (R169) -/

/-- R169: the arbiter leaves the slot empty only where no source has a frame. -/
theorem choose_of_empty (h : s.choose.lnk.slot = none) : s.NothingWaits ∧ s.choose = s := by
  unfold choose at h ⊢
  split
  · next hr => simp [hr, placeReply, emit] at h
  · next hr =>
    simp only [hr] at h
    split
    · next hc => simp [hc, placeDeposit, emit] at h
    · next hc =>
      simp only [hc] at h
      split
      · next ho => simp [ho, placeOrder, emit] at h
      · next ho =>
        simp only [ho] at h
        split
        · next hb => simp [hb, placeRecord, emit] at h
        · next hb =>
          simp only [hb] at h
          split
          · next he => simp [he, placeEvent, emit] at h
          · next he =>
            rw [if_neg he] at h
            split
            · next hf => simp [hf, placeForward] at h
            · next hf =>
              exact ⟨⟨by simpa using hr, hc, ho, hb, by simpa using he, by simpa using hf⟩, rfl⟩

theorem arbitrate_of_empty (h : s.arbitrate.lnk.slot = none) : s.NothingWaits ∧ s.arbitrate = s := by
  unfold arbitrate at h ⊢
  split
  · next full =>
    rw [if_pos full] at h
    simp [h] at full
  · next empty =>
    rw [if_neg empty] at h
    exact choose_of_empty h

/-- The arbiter changes nothing that R158 looks at. -/
theorem arbitrate_idleRaised (s : State) : s.arbitrate.lsv.idleRaised = s.lsv.idleRaised := by
  unfold arbitrate choose
  split
  · rfl
  · split
    · rfl
    · split
      · rfl
      · split
        · simp [placeOrder, emit]
        · split
          · simp [placeRecord, emit]
          · split
            · rfl
            · split <;> rfl

/-- The end of an event leaves the ACTIVE deposit alone. -/
theorem activeContext_of_steady (h : t.steady = s.steady) : t.activeContext = s.activeContext := by
  have active (u : State) : u.activeContext = u.steady.dpu.contexts.find? (fun c => decide (c.state = .active)) := by
    have counting (c : Context) : (decide (c.counting = true ∧ decide (c.state = .active) = true))
        = decide (c.state = .active) := by
      unfold Context.counting
      cases c.state <;> simp
    simp only [State.steady, List.find?_filter, counting, activeContext]
  rw [active, active, h]

theorem idleDue_of_steady (h : t.steady = s.steady) (hr : t.lsv.idleRaised = s.lsv.idleRaised) :
    t.idleDue = s.idleDue := by
  have reached : t.lsv.idleReached = s.lsv.idleReached :=
    show t.steady.lsv.idleReached = s.steady.lsv.idleReached by rw [h]
  have running : t.lsv.running = s.lsv.running := show t.steady.lsv.running = s.steady.lsv.running by rw [h]
  simp only [idleDue, activeAssigned, reached, running, hr, line_of_steady h, activeContext_of_steady h]

/-! ## The whole end of an event -/

@[simp] theorem backlogTest_idleRaised (s : State) : s.backlogTest.lsv.idleRaised = s.lsv.idleRaised := by
  unfold backlogTest
  split
  · rfl
  · split <;> rfl

theorem NothingWaits.backlogTest (h : s.NothingWaits) : s.backlogTest.NothingWaits := by
  unfold State.backlogTest
  split
  · exact h
  · split <;> exact h

theorem pocket_of_pkm (h : t.pkm = s.pkm) (k : PocketNo) : t.pocket k = s.pocket k := by rw [pocket, pocket, h]

/-- From the placement on, the end of an event leaves nothing undone where all before it is done. -/
theorem placed_quiet (pockets : ∀ k, s.PocketQuiet k)
    (near : s.held .looseNearFull = ((s.pocket pocket1).nearFull || (s.pocket pocket2).nearFull))
    (idle : s.idleDue = false) : s.arbitrate.heldBack.nearFullTest.backlogTest.Quiet := by
  have same : s.arbitrate.heldBack.nearFullTest.backlogTest.steady = s.steady := by
    rw [steady_backlogTest, steady_nearFullTest, steady_heldBack, steady_arbitrate]
  have records (u : State) : u.backlogTest.pkm = u.pkm := (backlogTest_keeps u).1
  refine ⟨fun k => (heldBack_quiet s.arbitrate k).congr (by simp) (by simp), ?_, ?_, fun empty => ?_,
    backlogTest_agrees _⟩
  · rw [backlogTest_held (by decide), nearFullTest_agrees, pocket_of_pkm (records _), pocket_of_pkm (records _)]
  · rw [idleDue_of_steady same (by simp [arbitrate_idleRaised]), idle]
  · obtain ⟨nothing, unplaced⟩ := arbitrate_of_empty (s := s) (by simpa using empty)
    rw [unplaced, heldBack_of_quiet pockets, nearFullTest_of_quiet near]
    exact nothing.backlogTest

/-- The end of an event leaves nothing undone, whatever the event has done. -/
theorem settle_quiet (s : State) : s.settle.Quiet := by
  have records (u : State) : u.feedIdleTest.pkm = u.pkm := (feedIdleTest_keeps u).1
  refine placed_quiet (fun k => (heldBack_quiet s k).congr (by simp) (by simp)) ?_ (feedIdleTest_idle _)
  rw [feedIdleTest_held, nearFullTest_agrees, pocket_of_pkm (records _), pocket_of_pkm (records _)]

/-! ## Every step -/

theorem takeCommand_quiet (h : s.Quiet) (row : Instr) (act : Act) : (s.takeCommand row act).Quiet := by
  unfold takeCommand
  split
  · exact h
  · split
    · exact settle_quiet _
    · exact h

theorem quiet_ite {c : Prop} [Decidable c] (h : s.Quiet) : (if c then t.settle else s).Quiet := by
  split
  · exact settle_quiet t
  · exact h

theorem clearingEdge_quiet (h : s.Quiet) : s.clearingEdge.Quiet := by
  unfold clearingEdge
  split
  · exact h
  · exact settle_quiet _
  · exact settle_quiet _

theorem jam_quiet (h : s.Quiet) : s.jam.Quiet := by
  unfold jam
  split
  · exact quiet_ite h
  · exact h
  · exact h

theorem expireGateOn_quiet (h : s.Quiet) (seq : Nat) : (s.expireGateOn seq).Quiet := by
  unfold expireGateOn
  split
  · split
    · split <;> exact h
    · exact h
  · exact h

theorem expireGateOff_quiet (h : s.Quiet) (seq : Nat) : (s.expireGateOff seq).Quiet := by
  unfold expireGateOff
  split
  · split
    · split <;> exact h
    · exact h
  · exact h

theorem idleMarkReached_quiet (h : s.Quiet) : s.idleMarkReached.Quiet := by
  unfold idleMarkReached
  split
  · exact quiet_ite h
  · exact h

theorem intakeTake_quiet (h : s.Quiet) : s.intakeTake.Quiet := by
  unfold intakeTake
  split
  · exact settle_quiet _
  · exact h

/-- Another record at one pocket leaves nothing to be done where nothing waits there, and its room and its slots are as
before. -/
theorem Quiet.storePocket {p : Pocket} (h : s.Quiet) (quiet : (s.storePocket k p).PocketQuiet k)
    (room : p.nearFull = (s.pocket k).nearFull) (order : p.strapOrder = (s.pocket k).strapOrder)
    (record : p.record = (s.pocket k).record) : (s.storePocket k p).Quiet := by
  have fields {α : Type} (f : Pocket → α) (hf : f p = f (s.pocket k)) (j : PocketNo) :
      f ((s.storePocket k p).pocket j) = f (s.pocket j) := by
    by_cases hj : j = k
    · subst hj
      rwa [pocket_storePocket_same]
    · rw [pocket_storePocket_other hj]
  have orders : (s.storePocket k p).firstOrder = s.firstOrder := by
    simp only [firstOrder, fields Pocket.strapOrder order]
  have records : (s.storePocket k p).firstRecord = s.firstRecord := by
    simp only [firstRecord, fields Pocket.record record]
  have waiting : (s.storePocket k p).recordsWaiting = s.recordsWaiting := by
    simp only [recordsWaiting, orders, records]
    rfl
  obtain ⟨pockets, full, idle, slot, backlog, heldUp⟩ := h
  refine ⟨fun j => ?_, ?_, idle, fun e => ?_, ?_, ?_⟩
  · by_cases hj : j = k
    · subst hj
      exact quiet
    · exact (pockets j).of_pocket (pocket_storePocket_other hj p s) rfl
  · rw [fields Pocket.nearFull room, fields Pocket.nearFull room]
    exact full
  · obtain ⟨replies, deposits, hasOrder, hasRecord, owed, forward⟩ := slot e
    exact ⟨replies, deposits, orders.trans hasOrder, records.trans hasRecord, owed, forward⟩
  · rw [waiting]
    exact backlog
  · unfold recordHeldUp at heldUp ⊢
    rw [waiting]
    exact heldUp

/-- The arrival eyes are none of what R80, R81, R85, R169 and R170 look at. -/
theorem setArrivalEye_quiet (h : s.Quiet) (k : PocketNo) (level : Bool) : (s.setArrivalEye k level).Quiet := by
  refine h.storePocket ?_ rfl rfl rfl
  have quiet := h.1 k
  unfold PocketQuiet at quiet ⊢
  rw [pocket_storePocket_same]
  exact quiet

theorem receiveByte_quiet (h : s.Quiet) (b : Byte) : (s.receiveByte b).Quiet := by
  unfold receiveByte
  dsimp only
  split
  · split <;> exact h
  · split
    · exact settle_quiet _
    · split
      · exact h
      · split <;> exact settle_quiet _

theorem receive_quiet (h : s.Quiet) (bytes : List Byte) : (bytes.foldl receiveByte s).Quiet := by
  induction bytes generalizing s with
  | nil => exact h
  | cons b bytes ih => exact ih (receiveByte_quiet h b)

/-- Every command leaves a quiet state quiet: its event has its end, or changes nothing that waits for one. -/
theorem exec_quiet (h : s.Quiet) (i : Instr) : ∃ t, exec i s = .next t ∧ t.Quiet :=
  match i with
  | .reset _ _ _ _ _ _ => ⟨_, rfl, afterReset_quiet ..⟩
  | .encoderPulse => ⟨_, rfl, h⟩
  | .entryEyeBlockingEdge => ⟨_, rfl, h⟩
  | .entryEyeClearingEdge => ⟨_, rfl, clearingEdge_quiet h⟩
  | .jamMarkExpiry => ⟨_, rfl, jam_quiet h⟩
  | .decisionPointExpiry _ => ⟨_, rfl, quiet_ite h⟩
  | .gateOnExpiry seq => ⟨_, rfl, expireGateOn_quiet h seq⟩
  | .gateOffExpiry seq => ⟨_, rfl, expireGateOff_quiet h seq⟩
  | .windowEndExpiry _ => ⟨_, rfl, quiet_ite h⟩
  | .idleMarkReached => ⟨_, rfl, idleMarkReached_quiet h⟩
  | .arrival _ => ⟨_, rfl, settle_quiet _⟩
  | .arrivalEyeClearingEdge k => ⟨_, rfl, setArrivalEye_quiet h k false⟩
  | .emptyEyeEdge _ _ => ⟨_, rfl, settle_quiet _⟩
  | .stackEyeEdge _ _ => ⟨_, rfl, settle_quiet _⟩
  | .runningFallingEdge => ⟨_, rfl, settle_quiet _⟩
  | .runningRisingEdge => ⟨_, rfl, settle_quiet _⟩
  | .stopEvent => ⟨_, rfl, quiet_ite h⟩
  | .linkFrameReceived bytes => ⟨_, rfl, receive_quiet h bytes⟩
  | .intakeTake => ⟨_, rfl, intakeTake_quiet h⟩
  | .strapTimerExpiry _ => ⟨_, rfl, quiet_ite h⟩
  | .transmissionEnd => ⟨_, rfl, quiet_ite h⟩
  | .loadTable => ⟨_, rfl, takeCommand_quiet h _ _⟩
  | .copyActiveToShadow => ⟨_, rfl, takeCommand_quiet h _ _⟩
  | .commitTables => ⟨_, rfl, takeCommand_quiet h _ _⟩
  | .cancelCommit => ⟨_, rfl, takeCommand_quiet h _ _⟩
  | .setLineParameters => ⟨_, rfl, takeCommand_quiet h _ _⟩
  | .declare => ⟨_, rfl, takeCommand_quiet h _ _⟩
  | .withdraw => ⟨_, rfl, takeCommand_quiet h _ _⟩
  | .lineControlRun => ⟨_, rfl, takeCommand_quiet h _ _⟩
  | .lineControlStop => ⟨_, rfl, takeCommand_quiet h _ _⟩
  | .lineControlHalt => ⟨_, rfl, takeCommand_quiet h _ _⟩
  | .lineControlResume => ⟨_, rfl, takeCommand_quiet h _ _⟩
  | .lineControlClear => ⟨_, rfl, takeCommand_quiet h _ _⟩
  | .unknownKind => ⟨_, rfl, takeCommand_quiet h _ _⟩
  | .forceDepositEnd => ⟨_, rfl, takeCommand_quiet h _ _⟩
  | .pocketControlInhibit => ⟨_, rfl, takeCommand_quiet h _ _⟩
  | .pocketControlRelease => ⟨_, rfl, takeCommand_quiet h _ _⟩
  | .pocketControlCloseShort => ⟨_, rfl, takeCommand_quiet h _ _⟩
  | .pocketControlClear => ⟨_, rfl, takeCommand_quiet h _ _⟩
  | .feedHoldSet => ⟨_, rfl, takeCommand_quiet h _ _⟩
  | .feedHoldClear => ⟨_, rfl, takeCommand_quiet h _ _⟩
  | .intakeRestart => ⟨_, rfl, takeCommand_quiet h _ _⟩
  | .eventEnableSet => ⟨_, rfl, takeCommand_quiet h _ _⟩
  | .eventEnableClear => ⟨_, rfl, takeCommand_quiet h _ _⟩
  | .eventClear => ⟨_, rfl, takeCommand_quiet h _ _⟩
  | .countersClear => ⟨_, rfl, takeCommand_quiet h _ _⟩
  | .statusQueryLine => ⟨_, rfl, takeCommand_quiet h _ _⟩
  | .statusQueryPocket => ⟨_, rfl, takeCommand_quiet h _ _⟩
  | .statusQueryDeposits => ⟨_, rfl, takeCommand_quiet h _ _⟩
  | .statusQueryTransit => ⟨_, rfl, takeCommand_quiet h _ _⟩
  | .statusQueryCounters => ⟨_, rfl, takeCommand_quiet h _ _⟩
  | .statusQueryWatch => ⟨_, rfl, takeCommand_quiet h _ _⟩
  | .parameterCodeRefusal => ⟨_, rfl, takeCommand_quiet h _ _⟩

end State
end Sys2Proof.Machine

section
open Sys2Proof Sys2Proof.Machine

/-- Settles O5: the end of an event leaves every state quiet (`State.settle_quiet`), and a step without one touches nothing
that could wait for it. -/
theorem quietKept : Obligations.QuietKept := by
  intro s t hs h
  unfold step at h
  split at h
  · obtain rfl : s = t := Host.Outcome.next.inj h
    exact hs
  · next i rest _ =>
    have queued : (s.withPending rest).Quiet := hs
    obtain ⟨u, hu, quiet⟩ := State.exec_quiet queued i
    obtain rfl : u = t := Host.Outcome.next.inj (hu.symm.trans h)
    exact quiet

end

/-! SUPPORT. The sums over a contribution list, and the statement about a pocket's account. -/

namespace Sys2Proof.Machine

/- One theorem at a time: many at once exhaust the threads. -/
set_option Elab.async false

variable {d : Nat} {l : List Contribution} {c : Contribution} {k : PocketNo} {p q : Pocket}

/-! ## Sums over contribution lists -/

theorem listed_iff : listed d l = true ↔ ∃ c ∈ l, c.deposit = d := by simp [listed]

theorem changeListed_of_unlisted (h : ∀ c ∈ l, c.deposit ≠ d) (f : Contribution → Contribution) : changeListed d f l = l := by
  unfold changeListed
  conv_rhs => rw [← List.map_id l]
  exact List.map_congr_left fun c hc => if_neg (h c hc)

theorem changeListed_deposits {f : Contribution → Contribution} (hf : ∀ c, (f c).deposit = c.deposit) (d : Nat)
    (l : List Contribution) : (changeListed d f l).map Contribution.deposit = l.map Contribution.deposit := by
  unfold changeListed
  rw [List.map_map]
  refine List.map_congr_left fun c _ => ?_
  simp only [Function.comp]
  split
  · exact hf c
  · rfl

theorem changeListed_nodup {f : Contribution → Contribution} (hf : ∀ c, (f c).deposit = c.deposit)
    (hn : (l.map Contribution.deposit).Nodup) : ((changeListed d f l).map Contribution.deposit).Nodup := by
  rwa [changeListed_deposits hf]

/-- A change of the one entry of deposit `d` changes a sum over the list by that entry's share. -/
theorem sum_changeListed (g : Contribution → Nat) (f : Contribution → Contribution)
    (hn : (l.map Contribution.deposit).Nodup) (hc : c ∈ l) (hd : c.deposit = d) :
    ((changeListed d f l).map g).sum + g c = (l.map g).sum + g (f c) := by
  induction l with
  | nil => cases hc
  | cons x l ih =>
    obtain ⟨fresh, distinct⟩ := List.nodup_cons.mp (by simpa using hn : (x.deposit :: l.map Contribution.deposit).Nodup)
    have head : changeListed d f (x :: l) = (if x.deposit = d then f x else x) :: changeListed d f l := rfl
    rw [head]
    rcases List.mem_cons.mp hc with rfl | hc
    · have others : ∀ y ∈ l, y.deposit ≠ d := fun y hy e => fresh (List.mem_map.mpr ⟨y, hy, e.trans hd.symm⟩)
      rw [if_pos hd, changeListed_of_unlisted others]
      simp only [List.map_cons, List.sum_cons]
      omega
    · have other : x.deposit ≠ d := fun e => fresh (List.mem_map.mpr ⟨c, hc, hd.trans e.symm⟩)
      have rest := ih distinct hc
      rw [if_neg other]
      simp only [List.map_cons, List.sum_cons]
      omega

/-- Entries without a share can be left out of a sum. -/
theorem sum_filter_of_zero {α : Type} (g : α → Nat) {keep : α → Bool} {l : List α}
    (h : ∀ x ∈ l, keep x = false → g x = 0) : ((l.filter keep).map g).sum = (l.map g).sum := by
  induction l with
  | nil => rfl
  | cons x l ih =>
    have rest := ih fun y hy => h y (List.mem_cons_of_mem x hy)
    cases hx : keep x with
    | true => simp [hx, rest]
    | false => simp [hx, rest, h x List.mem_cons_self hx]

namespace Pocket

/-! ## Pocket records in balance -/

theorem Balanced.of_contents (h : q.contents = p.contents) (hp : p.Balanced) : q.Balanced := by
  have same : p.contents.Balanced := hp
  rw [← h] at same
  exact same

/-- R95: the record's list names the delivered notes of the pocket's list. -/
theorem bundleRecord_balanced (hp : p.Balanced) (st : BundleStatus) :
    (p.bundleRecord st).count = (p.bundleRecord st).listedSum ∧ ((p.bundleRecord st).pairs.map Prod.fst).Nodup := by
  obtain ⟨-, hheld, distinct⟩ := hp
  have delivered : (p.bundleRecord st).listedSum = (p.contributions.map Contribution.delivered).sum := by
    simp only [BundleRecord.listedSum, bundleRecord, List.map_map]
    exact sum_filter_of_zero Contribution.delivered fun c _ h => by simpa using h
  refine ⟨?_, ?_⟩
  · rw [delivered]
    exact Nat.sub_eq_of_eq_add hheld
  · simp only [bundleRecord, List.map_map]
    exact distinct.sublist (List.filter_sublist.map _)

theorem bundleRecord_pairs_length (st : BundleStatus) (p : Pocket) :
    (p.bundleRecord st).pairs.length ≤ p.contributions.length := by
  simp only [bundleRecord, List.length_map]
  exact List.length_filter_le _ _

theorem issue_balanced (hp : p.Balanced) (st : BundleStatus) (next : Nat) : (p.issue st next).Balanced := by
  obtain ⟨hcommitted, -, distinct⟩ := hp
  refine ⟨hcommitted.trans ?_, ?_, ?_⟩
  · have kept : ((p.contributions.filter (fun c => c.committed != 0)).map Contribution.committed).sum
        = (p.contributions.map Contribution.committed).sum :=
      sum_filter_of_zero Contribution.committed fun c _ h => by simpa using h
    simp only [issue, List.map_map, ← kept]
    rfl
  · simp [issue, Function.comp_def]
  · simp only [issue, List.map_map]
    exact distinct.sublist (List.filter_sublist.map _)

/-- R73, R75: a commitment counted in the list, or unlisted at pocket 1, is one commitment more in the sums. -/
theorem addContribution_balanced (hp : p.Balanced) (place : hasPlace d p.contributions = true ∨ k = pocket1)
    (bundle : Option Nat) :
    (Pocket.addContribution k d { p with bundle := bundle, committed := p.committed + 1 }).Balanced := by
  obtain ⟨hcommitted, hheld, distinct⟩ := hp
  unfold addContribution
  dsimp only
  split
  · next hl =>
    obtain ⟨c, hc, hd⟩ := listed_iff.mp hl
    have more := sum_changeListed Contribution.committed (fun c => { c with committed := c.committed + 1 }) distinct hc hd
    have same := sum_changeListed Contribution.delivered (fun c => { c with committed := c.committed + 1 }) distinct hc hd
    dsimp only at more same
    exact ⟨by dsimp only; omega, by dsimp only; omega, changeListed_nodup (fun _ => rfl) distinct⟩
  · next hl =>
    split
    · exact ⟨by dsimp only; omega, hheld, distinct⟩
    · next unlisted =>
      have fresh : d ∉ p.contributions.map Contribution.deposit := by
        simpa [listed] using hl
      split
      · refine ⟨?_, ?_, ?_⟩
        · simp only [List.map_append, List.map_cons, List.map_nil, List.sum_append, List.sum_cons, List.sum_nil]
          omega
        · simpa using hheld
        · simp only [List.map_append, List.map_cons, List.map_nil]
          exact List.nodup_append.mpr ⟨distinct, List.nodup_singleton d, by
            rintro a ha b hb rfl
            rw [List.mem_singleton] at hb
            exact fresh (hb ▸ ha)⟩
      · next full =>
        have first : k = pocket1 := by
          refine place.resolve_left fun h => ?_
          rcases hasPlace_iff.mp h with listedHere | room
          · exact hl (listed_iff.mpr listedHere)
          · exact full room
        exact absurd ⟨first, .inr (by omega)⟩ unlisted

theorem commit_balanced (hp : p.Balanced) (place : hasPlace d p.contributions = true ∨ k = pocket1) (next : Nat) :
    (p.commit k d next).Balanced := by
  have counted := addContribution_balanced hp place (some (p.bundleOr next))
  unfold commit
  dsimp only
  split
  · exact counted
  · exact counted

theorem addContribution_bundle (k : PocketNo) (d : Nat) (p : Pocket) : (p.addContribution k d).bundle = p.bundle := by
  unfold addContribution
  repeat' split
  all_goals rfl

theorem commit_bundle (k : PocketNo) (d next : Nat) (p : Pocket) :
    (p.commit k d next).bundle = some (p.bundle.getD next) := by
  unfold commit
  dsimp only
  split <;> exact addContribution_bundle k d _

/-! ## A commitment that ends -/

/-- A commitment of deposit `d` to pocket `k` is on record: in the list, or, at pocket 1, unlisted. -/
def Records (k : PocketNo) (d : Nat) (p : Pocket) : Prop :=
  (∃ c ∈ p.contributions, c.deposit = d ∧ 0 < c.committed)
    ∨ (k = pocket1 ∧ (∀ c ∈ p.contributions, c.deposit ≠ d) ∧ 0 < p.unlistedCommitted)

/-- A commitment on record is among the committed notes. -/
theorem Records.committed (h : p.Records k d) (hp : p.Balanced) : 0 < p.committed := by
  obtain ⟨hcommitted, -⟩ := hp
  rcases h with ⟨c, hc, -, pos⟩ | ⟨-, -, pos⟩
  · have part : c.committed ≤ (p.contributions.map Contribution.committed).sum :=
      List.single_le_sum (by simp) _ (List.mem_map_of_mem hc)
    omega
  · omega

/-- R76: a commitment taken back is one commitment less in the sums. -/
theorem withdrawCounts_balanced (h : p.Records k d) (hp : p.Balanced) : (p.withdrawCounts k d).Balanced := by
  have dropped : (Pocket.dropContribution k d { p with committed := p.committed - 1 }).Balanced := by
    obtain ⟨hcommitted, hheld, distinct⟩ := hp
    unfold dropContribution
    dsimp only
    rcases h with ⟨c, hc, hd, pos⟩ | ⟨first, unlisted, pos⟩
    · have fewer := sum_changeListed Contribution.committed (fun c => { c with committed := c.committed - 1 }) distinct hc hd
      have same := sum_changeListed Contribution.delivered (fun c => { c with committed := c.committed - 1 }) distinct hc hd
      dsimp only at fewer same
      rw [if_pos (listed_iff.mpr ⟨c, hc, hd⟩)]
      refine ⟨?_, ?_, ?_⟩
      · dsimp only
        rw [sum_filter_of_zero Contribution.committed (by simp +contextual)]
        omega
      · dsimp only
        rw [sum_filter_of_zero Contribution.delivered (by simp +contextual)]
        omega
      · refine List.Nodup.sublist (List.filter_sublist.map Contribution.deposit) ?_
        exact changeListed_nodup (fun _ => rfl) distinct
    · rw [if_neg (by rw [listed_eq_false.mpr unlisted]; decide), if_pos first]
      exact ⟨by dsimp only; omega, hheld, distinct⟩
  unfold withdrawCounts
  dsimp only
  split
  · exact dropped
  · exact dropped

theorem contents_withdraw (b : Bank) (k : PocketNo) (d : Nat) (p : Pocket) :
    (p.withdraw b k d).contents = (p.withdrawCounts k d).contents := by
  unfold withdraw
  dsimp only
  rw [contents_closingTest]
  split <;> rfl

theorem withdrawCounts_held (k : PocketNo) (d : Nat) (p : Pocket) : (p.withdrawCounts k d).held = p.held := by
  have dropped (q : Pocket) : (q.dropContribution k d).held = q.held := by
    unfold dropContribution
    dsimp only
    split
    · rfl
    · split <;> rfl
  unfold withdrawCounts
  dsimp only
  split <;> exact dropped _

/-- Table 4-2: a delivery moves one note from the committed sum to the delivered sum. -/
theorem received_balanced (h : p.Records k d) (hp : p.Balanced) (card : Bool) : (p.received k d card).Balanced := by
  obtain ⟨hcommitted, hheld, distinct⟩ := hp
  rcases h with ⟨c, hc, hd, pos⟩ | ⟨first, unlisted, pos⟩
  · have others : ¬ (k = pocket1 ∧ ∀ c ∈ p.contributions, c.deposit ≠ d) := fun h => h.2 c hc hd
    have fewer := sum_changeListed Contribution.committed
      (fun c => { c with committed := c.committed - 1, delivered := c.delivered + 1 }) distinct hc hd
    have more := sum_changeListed Contribution.delivered
      (fun c => { c with committed := c.committed - 1, delivered := c.delivered + 1 }) distinct hc hd
    dsimp only at fewer more
    unfold received moveNote
    dsimp only
    rw [if_neg others, if_neg others]
    refine ⟨?_, ?_, changeListed_nodup (fun _ => rfl) distinct⟩
    · change p.committed - 1
        = ((changeListed d _ p.contributions).map Contribution.committed).sum + p.unlistedCommitted
      omega
    · change p.held + 1
        = ((changeListed d _ p.contributions).map Contribution.delivered).sum + p.unlistedDelivered
      omega
  · have moved : k = pocket1 ∧ ∀ c ∈ p.contributions, c.deposit ≠ d := ⟨first, unlisted⟩
    unfold received moveNote
    dsimp only
    rw [if_pos moved, if_pos moved, deliveredIn_of_unlisted unlisted]
    exact ⟨by dsimp only; omega, by dsimp only; omega, distinct⟩

theorem held_of_contents (h : q.contents = p.contents) : q.held = p.held := congrArg Prod.fst (counts_of_contents h)

end Pocket
end Sys2Proof.Machine

section
open Sys2Proof Sys2Proof.Machine

/-- Settles O60: each of the four operations changes the sums over the list as it changes the counts. -/
theorem pocketAccount : Obligations.PocketAccount := by
  intro p b k d next card st hp hl
  refine ⟨?_, fun place => ?_, fun records => ?_⟩
  · obtain ⟨count, distinct⟩ := Pocket.bundleRecord_balanced hp st
    exact ⟨count, (Pocket.bundleRecord_pairs_length st p).trans hl, distinct, Pocket.issue_balanced hp st next, rfl⟩
  · exact ⟨Pocket.commit_balanced hp place next, Pocket.commit_committed k d next p, Pocket.commit_held k d next p,
      Pocket.commit_bundle k d next p⟩
  · have pos : 0 < p.committed := Pocket.Records.committed records hp
    have withdrawn := Pocket.contents_withdraw b k d p
    have delivered := Pocket.contents_deliver b k d card p
    refine ⟨(Pocket.withdrawCounts_balanced records hp).of_contents withdrawn, ?_,
      (Pocket.held_of_contents withdrawn).trans (Pocket.withdrawCounts_held k d p),
      (Pocket.received_balanced records hp card).of_contents delivered, ?_, Pocket.held_of_contents delivered⟩
    · rw [Pocket.withdraw_committed]
      omega
    · rw [(Pocket.fields_of_contents delivered).1]
      exact Nat.sub_add_cancel pos

end

/-! SUPPORT. The end of an event as one pocket sees it, move by move and with the frame in the transmit slot; and what an event
at one pocket leaves alone. -/

namespace Sys2Proof.Machine

/- One theorem at a time: many at once exhaust the threads. -/
set_option Elab.async false

variable {s t u : State} {j k : PocketNo} {p q : Pocket} {b : Bank} {r : BundleRecord} {x y : Pocket × Option TxFrame}
  {frame : BundleRecord → TxFrame}

/-! ## The next bundle of a pocket (R85, R91, R94, R97) -/

namespace Pocket

/-- R91 or R85, R94, R97: the pocket takes its new assignment, or reopens with its limit set anew. -/
def restart (b : Bank) (k : PocketNo) (p : Pocket) : Pocket := if p.changeover then p.takeAssignment b k else p.reopen

/-- R85: the pocket after its REMOVED record is issued; `next` is the next bundle number. -/
def nextBundle (b : Bank) (k : PocketNo) (next : Nat) (p : Pocket) : Pocket := (p.issue .removed next).restart b k

theorem contents_reopen (p : Pocket) : p.reopen.contents = p.contents := contents_setLimit { p with state := .open }

@[simp] theorem contents_restart (b : Bank) (k : PocketNo) (p : Pocket) : (p.restart b k).contents = p.contents := by
  unfold restart
  split
  · exact contents_takeAssignment b k p
  · exact contents_reopen p

@[simp] theorem restart_held (b : Bank) (k : PocketNo) (p : Pocket) : (p.restart b k).held = p.held :=
  held_of_contents (contents_restart b k p)

theorem slots_of_contents (h : q.contents = p.contents) : q.strapOrder = p.strapOrder ∧ q.strapTimer = p.strapTimer :=
  ⟨show q.contents.strapOrder = p.contents.strapOrder by rw [h], show q.contents.strapTimer = p.contents.strapTimer by rw [h]⟩

theorem completionTest_state_of_loose (h : p.isLoose = true) :
    p.completionTest.state = p.state ∨ p.completionTest.state = .awaitingRemoval := by
  unfold completionTest
  rw [if_pos h]
  split
  · exact .inr rfl
  · exact .inl rfl

/-- R72: the states that a test against the limit leaves. -/
theorem limitTest_state (p : Pocket) : p.limitTest.state = p.state ∨ p.limitTest.state = .open ∨ p.limitTest.state = .full
    ∨ p.limitTest.state = .awaitingRemoval := by
  have tested (q : Pocket) : (if q.isLoose then q.completionTest else q).state = q.state
      ∨ (if q.isLoose then q.completionTest else q).state = .awaitingRemoval := by
    split
    · next h => exact completionTest_state_of_loose h
    · exact .inl rfl
  unfold limitTest
  dsimp only
  split
  · exact .inr (.inr (tested { p with state := .full }))
  · split
    · exact (tested { p with state := .open }).elim (fun h => .inr (.inl h)) fun h => .inr (.inr (.inr h))
    · exact (tested p).elim .inl fun h => .inr (.inr (.inr h))

theorem enterOpen_state (p : Pocket) : p.enterOpen.state = .open ∨ p.enterOpen.state = .full
    ∨ p.enterOpen.state = .awaitingRemoval :=
  (limitTest_state { p with state := .open }).elim .inl id

theorem reopen_state (p : Pocket) : p.reopen.state = .open ∨ p.reopen.state = .full ∨ p.reopen.state = .awaitingRemoval :=
  (limitTest_state { p with state := .open, limit := limitFor { p with state := .open } }).elim .inl id

theorem takeAssignment_state (b : Bank) (k : PocketNo) (p : Pocket) : (p.takeAssignment b k).state = .disabled
    ∨ (p.takeAssignment b k).state = .unaccounted ∨ (p.takeAssignment b k).state = .open
    ∨ (p.takeAssignment b k).state = .full ∨ (p.takeAssignment b k).state = .awaitingRemoval := by
  unfold takeAssignment
  dsimp only
  split
  · exact .inl rfl
  · split
    · exact .inr (.inl rfl)
    · exact .inr (.inr (enterOpen_state _))

theorem takeAssignment_not_complete (b : Bank) (k : PocketNo) (p : Pocket) : (p.takeAssignment b k).state ≠ .complete := by
  rcases takeAssignment_state b k p with h | h | h | h | h <;> rw [h] <;> decide

/-- A pocket that starts a bundle has not completed it. -/
theorem restart_not_complete (b : Bank) (k : PocketNo) (p : Pocket) : (p.restart b k).state ≠ .complete := by
  unfold restart
  split
  · exact takeAssignment_not_complete b k p
  · rcases reopen_state p with h | h | h <;> rw [h] <;> decide

theorem limitTest_keeps (p : Pocket) : p.limitTest = { p with state := p.limitTest.state } := by
  unfold limitTest completionTest
  dsimp only
  repeat' split
  all_goals rfl

theorem reopen_eq (p : Pocket) : p.reopen
    = { p with limit := limitFor { p with state := .open }, state := p.reopen.state } :=
  limitTest_keeps { p with state := .open, limit := limitFor { p with state := .open } }

/-- R91: what a pocket that takes its new assignment has. -/
theorem takeAssignment_assignment (b : Bank) (k : PocketNo) (p : Pocket) :
    (p.takeAssignment b k).assignment = b.assignmentFor k ∧ (p.takeAssignment b k).changeover = false := by
  unfold takeAssignment
  dsimp only
  split
  · exact ⟨rfl, rfl⟩
  · split
    · exact ⟨rfl, rfl⟩
    · rw [enterOpen, limitTest_keeps]
      exact ⟨rfl, rfl⟩

theorem limitTest_of_open (hs : p.state = .open) (hl : p.committed + p.held < p.limit) : p.limitTest = p := by
  have below : p.filled < p.limit := hl
  have test : p.completionTest = p := if_neg fun h => by simp [hs] at h
  unfold limitTest
  simp [hs, below.ne, test]

/-- R85: a pocket with room reopens in OPEN. -/
theorem reopen_of_room {limit : Nat} (hl : limitFor { p with state := .open } = limit)
    (room : p.committed + p.held < limit) : p.reopen = { p with limit := limit, state := .open } := by
  unfold reopen setLimit
  rw [hl]
  exact limitTest_of_open rfl room

/-! ## The end of an event, move by move -/

/-- What R81 and R85 do to the record of pocket `k` under the active bank `b`. -/
inductive HeldStep (b : Bank) (k : PocketNo) : Pocket → Pocket → Prop
  | order (p : Pocket) (hs : p.state = .complete) : HeldStep b k p { p with strapOrder := some p.order }
  | removed (p : Pocket) (next : Nat) (hs : p.state = .awaitingRemoval) (he : p.emptyEye = false) (hr : p.record = none) :
      HeldStep b k p (p.nextBundle b k next)

/-- What the end of an event does to the record of pocket `k`, which stands here with the transmit slot; `frame` is the form
of a bundle record's frame. -/
inductive EndMove (b : Bank) (k : PocketNo) (frame : BundleRecord → TxFrame) :
    Pocket × Option TxFrame → Pocket × Option TxFrame → Prop
  /-- R81, R85: an order or a record is issued. -/
  | held (p q : Pocket) (f : Option TxFrame) (h : HeldStep b k p q) : EndMove b k frame (p, f) (q, f)
  /-- R169: a frame takes the transmit slot, from another source than the pocket's own slots. -/
  | placed (p : Pocket) (f : TxFrame) : EndMove b k frame (p, none) (p, some f)
  /-- R82: the pocket's strap order is placed. -/
  | orderPlaced (p : Pocket) (timeout : Nat) (f : TxFrame) (h : p.strapOrder ≠ none) : EndMove b k frame (p, none)
      ({ p with state := .strapping, strapOrder := none, strapTimer := some timeout }, some f)
  /-- R95: the pocket's bundle record is placed. -/
  | recordPlaced (p : Pocket) (r : BundleRecord) (h : p.record = some r) :
      EndMove b k frame (p, none) ({ p with record := none }, some (frame r))

/-- The pocket waits for nothing at the end of an event: no order can be filled or placed, no removal is looked for. -/
def AtRest (p : Pocket) : Prop :=
  p.state ≠ .complete ∧ p.strapOrder = none ∧ (p.state = .awaitingRemoval → p.emptyEye = true)

theorem AtRest.of_state (ho : p.strapOrder = none) (hc : p.state ≠ .complete) (ha : p.state ≠ .awaitingRemoval) : p.AtRest :=
  ⟨hc, ho, fun h => absurd h ha⟩

/-- A pocket at rest keeps everything but a record that is placed. -/
theorem EndMove.of_atRest (h : p.AtRest) (e : EndMove b k frame x y) (hx : x.1 = { p with record := x.1.record }) :
    y.1 = { p with record := y.1.record } := by
  obtain ⟨hc, ho, ha⟩ := h
  cases e with
  | held p' q f held =>
    cases held with
    | order hs =>
      dsimp only at hx
      rw [hx] at hs
      exact absurd hs hc
    | removed next hs he hr =>
      dsimp only at hx
      rw [hx] at hs he
      exact absurd ((ha hs).symm.trans he) (by decide)
  | placed p' f => exact hx
  | orderPlaced p' timeout f order =>
    dsimp only at hx
    rw [hx] at order
    exact absurd ho order
  | recordPlaced p' r hr =>
    dsimp only at hx ⊢
    rw [hx]

/-- R95: an issued record stays in its slot until its frame is placed. -/
theorem EndMove.recorded (e : EndMove b k frame x y) (hx : x.1.record = some r ∨ x.2 = some (frame r)) :
    y.1.record = some r ∨ y.2 = some (frame r) := by
  cases e with
  | held p' q f held =>
    cases held with
    | order hs => exact hx
    | removed next hs he hr => exact .inr (hx.resolve_left (by simp [hr]))
  | placed p' f => exact .inl (hx.resolve_right (by simp))
  | orderPlaced p' timeout f order => exact .inl (hx.resolve_right (by simp))
  | recordPlaced p' r' hr =>
    obtain rfl : r' = r := Option.some.inj (hr.symm.trans (hx.resolve_right (by simp)))
    exact .inr rfl

/-- The pocket holds no notes, and neither an order nor a timer. -/
def Emptied (p : Pocket) : Prop := p.held = 0 ∧ p.strapOrder = none ∧ p.strapTimer = none ∧ p.state ≠ .complete

theorem Emptied.restart (h : p.Emptied) (b : Bank) (k : PocketNo) : (p.restart b k).Emptied := by
  obtain ⟨held, order, timer, -⟩ := h
  obtain ⟨orders, timers⟩ := slots_of_contents (contents_restart b k p)
  exact ⟨(restart_held b k p).trans held, orders.trans order, timers.trans timer, restart_not_complete b k p⟩

/-- R95: a record that is issued empties its pocket. -/
theorem issue_emptied (ho : p.strapOrder = none) (ht : p.strapTimer = none) (hc : p.state ≠ .complete) (st : BundleStatus)
    (next : Nat) : (p.issue st next).Emptied := ⟨rfl, ho, ht, hc⟩

theorem HeldStep.emptied (e : HeldStep b k p q) (hp : p.Emptied) : q.Emptied := by
  obtain ⟨-, order, timer, state⟩ := hp
  cases e with
  | order hs => exact absurd hs state
  | removed next hs he hr =>
    exact (issue_emptied order timer state .removed next).restart b k

theorem EndMove.emptied (e : EndMove b k frame x y) (hx : x.1.Emptied) : y.1.Emptied := by
  cases e with
  | held p' q f held => exact held.emptied hx
  | placed p' f => exact hx
  | orderPlaced p' timeout f order => exact absurd hx.2.1 order
  | recordPlaced p' r' hr => exact hx

/-- A pocket whose changeover is done keeps its assignment. -/
theorem EndMove.assigned {a : Option Assignment} (e : EndMove b k frame x y)
    (hx : x.1.assignment = a ∧ x.1.changeover = false) : y.1.assignment = a ∧ y.1.changeover = false := by
  cases e with
  | held p' q f held =>
    cases held with
    | order hs => exact hx
    | removed next hs he hr =>
      have unmarked : (p'.issue .removed next).changeover = false := hx.2
      dsimp only
      rw [nextBundle, restart, unmarked, if_neg Bool.false_ne_true, reopen_eq]
      exact hx
  | placed p' f => exact hx
  | orderPlaced p' timeout f order => exact hx
  | recordPlaced p' r' hr => exact hx

/-- What every move keeps is kept along a chain of them. -/
theorem EndMove.chain_keeps {P : Pocket × Option TxFrame → Prop} (h : Relation.ReflTransGen (EndMove b k frame) x y)
    (step : ∀ {x y}, P x → EndMove b k frame x y → P y) (hx : P x) : P y := by
  induction h with
  | refl => exact hx
  | tail _ e ih => exact step ih e

end Pocket

namespace State

theorem startBundle_pocket_same (k : PocketNo) (s : State) :
    (s.startBundle k).pocket k = (s.pocket k).restart s.tbs.active k := by
  rw [startBundle, reenterPocket_pocket_same]
  rfl

/-! ## The chain of moves -/

/-- The form of a bundle record's frame of pocket `k` (Table 9-6). -/
def recordFrame (k : PocketNo) (s : State) (r : BundleRecord) : TxFrame :=
  s.ownFrame .bundleRecord 0 0x43 0 (r.payload k)

/-- Pocket `k` and the transmit slot. -/
def endingAt (k : PocketNo) (s : State) : Pocket × Option TxFrame := (s.pocket k, s.lnk.slot)

/-- The end of an event leads from `s` to `t`, as pocket `k` and the transmit slot see it. -/
def MovesTo (k : PocketNo) (s t : State) : Prop :=
  t.tbs = s.tbs ∧ t.lnk.station = s.lnk.station
    ∧ Relation.ReflTransGen (Pocket.EndMove s.tbs.active k (s.recordFrame k)) (s.endingAt k) (t.endingAt k)

theorem recordFrame_of_station (h : t.lnk.station = s.lnk.station) (k : PocketNo) : t.recordFrame k = s.recordFrame k := by
  funext r
  rw [recordFrame, recordFrame, ownFrame, ownFrame, ownStation, ownStation, h]

theorem MovesTo.trans (h : MovesTo k s t) (g : MovesTo k t u) : MovesTo k s u := by
  obtain ⟨hb, hl, hm⟩ := h
  obtain ⟨gb, gl, gm⟩ := g
  rw [hb, recordFrame_of_station hl] at gm
  exact ⟨gb.trans hb, gl.trans hl, hm.trans gm⟩

theorem MovesTo.of_same (hb : t.tbs = s.tbs) (hl : t.lnk = s.lnk) (hp : t.pocket k = s.pocket k) : MovesTo k s t := by
  have same : t.endingAt k = s.endingAt k := by rw [endingAt, endingAt, hp, hl]
  exact ⟨hb, by rw [hl], by rw [same]⟩

theorem MovesTo.single (hb : t.tbs = s.tbs) (hl : t.lnk.station = s.lnk.station)
    (hm : Pocket.EndMove s.tbs.active k (s.recordFrame k) (s.endingAt k) (t.endingAt k)) : MovesTo k s t :=
  ⟨hb, hl, .single hm⟩

/-- What every move keeps is kept. -/
theorem MovesTo.keeps {P : Pocket × Option TxFrame → Prop} (h : MovesTo k s t)
    (step : ∀ {x y}, P x → Pocket.EndMove s.tbs.active k (s.recordFrame k) x y → P y) (hs : P (s.pocket k, s.lnk.slot)) :
    P (t.pocket k, t.lnk.slot) := by
  obtain ⟨-, -, hm⟩ := h
  exact Pocket.EndMove.chain_keeps hm step hs

/-- R81, R85 at pocket `j`, as pocket `k` sees it. -/
theorem holdBack_step (j k : PocketNo) (s : State) :
    ((s.fillOrder j).issueRemoved j).pocket k = s.pocket k
      ∨ Pocket.HeldStep s.tbs.active k (s.pocket k) (((s.fillOrder j).issueRemoved j).pocket k) := by
  by_cases hk : k = j
  · subst hk
    by_cases ho : (s.pocket k).state = .complete ∧ (s.pocket k).strapOrder = none ∧ (s.pocket k).record = none
        ∧ s.tbs.params.strappingStation ≠ none
    · have filled : (s.fillOrder k).pocket k = { s.pocket k with strapOrder := some (s.pocket k).order } := by
        unfold fillOrder
        rw [if_pos ho, putPocket_pocket_same]
      have rests : (s.fillOrder k).issueRemoved k = s.fillOrder k := if_neg fun h => by simp [filled, ho.1] at h
      rw [rests, filled]
      exact .inr (.order _ ho.1)
    · have idle : s.fillOrder k = s := if_neg ho
      rw [idle]
      by_cases hr : (s.pocket k).state = .awaitingRemoval ∧ (s.pocket k).emptyEye = false ∧ (s.pocket k).record = none
      · have issued : (s.issueRemoved k).pocket k = (s.pocket k).nextBundle s.tbs.active k s.pkm.nextBundle := by
          unfold issueRemoved
          rw [if_pos hr, startBundle_pocket_same, issueRecord_pocket_same]
          simp [Pocket.nextBundle]
        obtain ⟨hs, he, hn⟩ := hr
        rw [issued]
        exact .inr (.removed _ _ hs he hn)
      · have rests : s.issueRemoved k = s := if_neg hr
        rw [rests]
        exact .inl rfl
  · exact .inl (by rw [pocket_issueRemoved_other hk, pocket_fillOrder_other hk])

/-- R81 and R85 lead pocket `k` through steps of `Pocket.HeldStep`. -/
theorem heldBack_steps (k : PocketNo) (s : State) :
    Relation.ReflTransGen (Pocket.HeldStep s.tbs.active k) (s.pocket k) (s.heldBack.pocket k) := by
  have visited (l : List PocketNo) (s : State) : Relation.ReflTransGen (Pocket.HeldStep s.tbs.active k) (s.pocket k)
      ((l.foldl (fun s j => (s.fillOrder j).issueRemoved j) s).pocket k) := by
    induction l generalizing s with
    | nil => exact .refl
    | cons j l ih =>
      have rest := ih ((s.fillOrder j).issueRemoved j)
      have tables : ((s.fillOrder j).issueRemoved j).tbs = s.tbs := by simp
      rw [tables] at rest
      rcases holdBack_step j k s with same | moved
      · rwa [same] at rest
      · exact .head moved rest
  exact visited allPockets s

theorem MovesTo.of_held (hb : t.tbs = s.tbs) (hl : t.lnk = s.lnk)
    (h : Relation.ReflTransGen (Pocket.HeldStep s.tbs.active k) (s.pocket k) (t.pocket k)) : MovesTo k s t := by
  refine ⟨hb, by rw [hl], ?_⟩
  rw [endingAt, endingAt, hl]
  exact h.lift (fun p => (p, s.lnk.slot)) fun p q held => .held p q _ held

theorem heldBack_moves (k : PocketNo) (s : State) : MovesTo k s s.heldBack :=
  .of_held (by simp) (by simp) (heldBack_steps k s)

theorem MovesTo.of_placed {f : TxFrame} (hs : s.lnk.slot = none) (ht : t.lnk.slot = some f) (hb : t.tbs = s.tbs)
    (hl : t.lnk.station = s.lnk.station) (hp : t.pocket k = s.pocket k) : MovesTo k s t := by
  refine .single hb hl ?_
  rw [endingAt, endingAt, hs, ht, hp]
  exact .placed _ f

theorem placeOrder_moves {o : StrapOrder} (hs : s.lnk.slot = none) (ho : (s.pocket j).strapOrder = some o)
    (k : PocketNo) : MovesTo k s (s.placeOrder j o) := by
  have slot : (s.placeOrder j o).lnk.slot
      = some (s.ownFrame .strapOrder (BitVec.ofNat 8 (s.tbs.params.strappingStation.getD 255)) 0x42 0 (o.payload j)) := by
    simp [placeOrder, emit, ownFrame]
  have station : (s.placeOrder j o).lnk.station = s.lnk.station := by simp [placeOrder, emit]
  by_cases hk : k = j
  · subst hk
    refine .single (by simp [placeOrder]) station ?_
    rw [endingAt, endingAt, hs, slot, placeOrder, putPocket_pocket_same]
    exact .orderPlaced _ _ _ (by simp [ho])
  · refine .of_placed hs slot (by simp [placeOrder]) station ?_
    rw [placeOrder, pocket_putPocket_other hk, pocket_emit]

/-- The record of the first pocket with one that waits is that pocket's. -/
theorem record_of_firstRecord (h : s.firstRecord = some (j, r)) : (s.pocket j).record = some r := by
  obtain ⟨i, -, hi⟩ := List.exists_of_findSome?_eq_some h
  obtain ⟨_, hr, heq⟩ := Option.map_eq_some_iff.mp hi
  obtain ⟨rfl, rfl⟩ := Prod.mk.inj heq
  exact hr

theorem placeRecord_moves (hs : s.lnk.slot = none) (hr : (s.pocket j).record = some r) (k : PocketNo) :
    MovesTo k s (s.placeRecord j r) := by
  have slot : (s.placeRecord j r).lnk.slot = some (s.recordFrame j r) := by
    simp [placeRecord, emit, recordFrame, ownFrame]
  have station : (s.placeRecord j r).lnk.station = s.lnk.station := by simp [placeRecord, emit]
  by_cases hk : k = j
  · subst hk
    refine .single (by simp [placeRecord]) station ?_
    rw [endingAt, endingAt, hs, slot, placeRecord, putPocket_pocket_same]
    exact .recordPlaced _ r hr
  · refine .of_placed hs slot (by simp [placeRecord]) station ?_
    rw [placeRecord, pocket_putPocket_other hk, pocket_emit]

theorem choose_moves (hs : s.lnk.slot = none) (k : PocketNo) : MovesTo k s s.choose := by
  unfold choose
  split
  · exact .of_placed hs rfl rfl rfl rfl
  · split
    · exact .of_placed hs rfl rfl rfl rfl
    · split
      · next ho => exact placeOrder_moves hs (strapOrder_of_firstOrder ho) k
      · split
        · next hr => exact placeRecord_moves hs (record_of_firstRecord hr) k
        · split
          · exact .of_placed hs rfl rfl rfl rfl
          · split
            · exact .of_placed hs rfl rfl rfl rfl
            · exact .of_same rfl rfl rfl

theorem arbitrate_moves (k : PocketNo) (s : State) : MovesTo k s s.arbitrate := by
  unfold arbitrate
  split
  · exact .of_same rfl rfl rfl
  · next h => exact choose_moves (by simpa using h) k

theorem nearFullTest_moves (k : PocketNo) (s : State) : MovesTo k s s.nearFullTest :=
  .of_same (by simp) (by simp) (pocket_of_pkm (by simp) k)

theorem feedIdleTest_moves (k : PocketNo) (s : State) : MovesTo k s s.feedIdleTest :=
  .of_same (by simp) (by simp) (pocket_of_pkm (by simp) k)

theorem backlogTest_moves (k : PocketNo) (s : State) : MovesTo k s s.backlogTest :=
  .of_same (by simp) (by simp) (pocket_of_pkm (by simp) k)

/-- The end of an event after R81 and R85 have been through the pockets for the first time. -/
theorem settle_moves_on (k : PocketNo) (s : State) : MovesTo k s.heldBack s.settle :=
  (((((nearFullTest_moves k _).trans (feedIdleTest_moves k _)).trans (arbitrate_moves k _)).trans
    (heldBack_moves k _)).trans (nearFullTest_moves k _)).trans (backlogTest_moves k _)

theorem settle_moves (k : PocketNo) (s : State) : MovesTo k s s.settle := (heldBack_moves k s).trans (settle_moves_on k s)

/-! ## What the end of an event leaves of one pocket -/

/-- A pocket at rest keeps everything but a record that is placed. -/
theorem settle_atRest (h : (s.pocket k).AtRest) :
    s.settle.pocket k = { s.pocket k with record := (s.settle.pocket k).record } := by
  have kept := (settle_moves k s).keeps (P := fun x => x.1 = { s.pocket k with record := x.1.record })
    (fun hx e => e.of_atRest h hx) rfl
  exact kept

theorem settle_atRest_state (h : (s.pocket k).AtRest) : (s.settle.pocket k).state = (s.pocket k).state := by
  have state := congrArg Pocket.state (settle_atRest h)
  dsimp only at state
  exact state

theorem recorded_iff :
    t.Recorded k r ↔ (t.pocket k).record = some r ∨ t.lnk.slot = some (t.recordFrame k r) := Iff.rfl

/-- R95: a record issued before the end of the event is in its slot after it, or its frame in the transmit slot. -/
theorem settle_recorded (h : (s.pocket k).record = some r) : s.settle.Recorded k r := by
  have recorded := (settle_moves k s).keeps
    (P := fun x => x.1.record = some r ∨ x.2 = some (s.recordFrame k r)) (fun hx e => e.recorded hx) (.inl h)
  have station : s.settle.recordFrame k = s.recordFrame k := recordFrame_of_station (settle_moves k s).2.1 k
  rw [← station] at recorded
  dsimp only at recorded
  exact recorded_iff.mpr recorded

theorem settle_emptied (h : (s.pocket k).Emptied) : (s.settle.pocket k).Emptied :=
  (settle_moves k s).keeps (P := fun x => x.1.Emptied) (fun hx e => e.emptied hx) h

/-- R85: what the end of an event starts from at a pocket whose notes have been removed, once their record is issued. -/
theorem heldBack_removes (hs : (s.pocket k).state = .awaitingRemoval) (he : (s.pocket k).emptyEye = false)
    (hr : (s.pocket k).record = none) : ∃ next, Relation.ReflTransGen (Pocket.HeldStep s.tbs.active k)
      ((s.pocket k).nextBundle s.tbs.active k next) (s.heldBack.pocket k) := by
  rcases Relation.ReflTransGen.cases_head (heldBack_steps k s) with same | ⟨q, first, rest⟩
  · have quiet := (heldBack_quiet s k).2
    rw [← same] at quiet
    exact absurd ⟨hs, he, hr⟩ quiet
  · generalize s.pocket k = p at *
    cases first with
    | order hc => exact absurd (hs.symm.trans hc) (by decide)
    | removed next => exact ⟨next, rest⟩

/-- R85: after a removal every move keeps what the pocket's next bundle starts with. -/
theorem settle_removed (hs : (s.pocket k).state = .awaitingRemoval) (he : (s.pocket k).emptyEye = false)
    (hr : (s.pocket k).record = none) : ∃ next, Relation.ReflTransGen (Pocket.EndMove s.tbs.active k (s.recordFrame k))
      ((s.pocket k).nextBundle s.tbs.active k next, s.lnk.slot) (s.settle.endingAt k) := by
  obtain ⟨next, removed⟩ := heldBack_removes hs he hr
  obtain ⟨-, -, moves⟩ := settle_moves_on k s
  have tables : s.heldBack.tbs = s.tbs := by simp
  have link : s.heldBack.lnk = s.lnk := by simp
  rw [tables, recordFrame_of_station (congrArg LinkInterface.station link), endingAt, link] at moves
  exact ⟨next, (removed.lift (fun p => (p, s.lnk.slot)) fun p q held => .held p q _ held).trans moves⟩

/-! ## What an event at one pocket leaves alone -/

/-- The event touches the pocket records, the blocked classes, the feed-hold reasons and the pending events, and no committed
count: the rest of the part is as before. -/
def PocketOnly (t s : State) : Prop := t.RestKept s ∧ t.LineKept s ∧ t.evu.counters = s.evu.counters

theorem PocketOnly.refl (s : State) : s.PocketOnly s := by simp [PocketOnly, RestKept, LineKept]

theorem PocketOnly.trans (h : u.PocketOnly t) (g : t.PocketOnly s) : u.PocketOnly s := by
  simp only [PocketOnly, RestKept, LineKept] at h g ⊢
  simp [h, g]

theorem AgreesWith.lineKept (h : t.AgreesWith s) : t.LineKept s := by
  have line : t.steady.lsv = s.steady.lsv := by rw [h.steady_eq]
  simp only [steady, LineSupervisor.mk.injEq] at line
  obtain ⟨state, reason, further, -, stop, running, scheduled, mark, reached, -⟩ := line
  exact ⟨trk_of_steady h, gdr_of_steady h, tbs_of_steady h, state, reason, further, stop, running, scheduled, mark, reached,
    h.counting, h.committed⟩

/-- The end of an event is of this kind. -/
theorem settle_pocketOnly (s : State) : s.settle.PocketOnly s :=
  have agrees : s.settle.AgreesWith s := settle_steady s
  ⟨agrees.restKept, agrees.lineKept, counters_of_steady agrees⟩

theorem raise_pocketOnly (x : EventKind) (s : State) : (s.raise x).PocketOnly s := by
  simp [PocketOnly, RestKept, LineKept]

theorem storePocket_pocketOnly (h : p.committed = (s.pocket k).committed) : (s.storePocket k p).PocketOnly s := by
  refine ⟨by simp [RestKept], ?_, rfl⟩
  have committed (j : PocketNo) : ((s.storePocket k p).pocket j).committed = (s.pocket j).committed := by
    by_cases hj : j = k
    · subst hj
      rwa [pocket_storePocket_same]
    · rw [pocket_storePocket_other hj]
  simp [LineKept, committed]

theorem setBlocked_pocketOnly (w : BitVec 24) (s : State) : (s.setBlocked w).PocketOnly s := by
  simp [PocketOnly, RestKept, LineKept]

theorem putPocket_pocketOnly (h : p.committed = (s.pocket k).committed) : (s.putPocket k p).PocketOnly s := by
  unfold putPocket
  split
  · exact (setBlocked_pocketOnly _ _).trans (storePocket_pocketOnly h)
  · exact storePocket_pocketOnly h

theorem reenterPocket_pocketOnly (h : p.committed = (s.pocket k).committed) : (s.reenterPocket k p).PocketOnly s := by
  unfold reenterPocket
  split
  · exact (setBlocked_pocketOnly _ _).trans (storePocket_pocketOnly h)
  · exact storePocket_pocketOnly h

theorem faultPocket_pocketOnly (k : PocketNo) (s : State) : (s.faultPocket k).PocketOnly s := by
  unfold faultPocket
  split
  · exact .refl s
  · exact (raise_pocketOnly _ _).trans (putPocket_pocketOnly rfl)

theorem setNextBundle_pocketOnly (n : Nat) (s : State) :
    State.PocketOnly { s with pkm := { s.pkm with nextBundle := n } } s := by
  simp [PocketOnly, RestKept, LineKept, pocket]

theorem issueRecord_pocketOnly (k : PocketNo) (st : BundleStatus) (s : State) : (s.issueRecord k st).PocketOnly s := by
  unfold issueRecord
  dsimp only
  refine PocketOnly.trans (putPocket_pocketOnly ?_) (setNextBundle_pocketOnly _ s)
  rfl

theorem startBundle_pocketOnly (k : PocketNo) (s : State) : (s.startBundle k).PocketOnly s := by
  have committed := (Pocket.fields_of_contents (Pocket.contents_restart s.tbs.active k (s.pocket k))).1
  exact reenterPocket_pocketOnly committed

/-! ## Pending events and FAULT -/

theorem pendingHas_raise {x : EventKind} (h : s.pendingHas x = true) (y : EventKind) : (s.raise y).pendingHas x = true :=
  setHas_setAdd _ _ h

theorem putPocket_pendingHas (x : EventKind) (k : PocketNo) (p : Pocket) (s : State) :
    (s.putPocket k p).pendingHas x = s.pendingHas x := by simp [pendingHas]

theorem faultPocket_pendingHas {x : EventKind} (h : s.pendingHas x = true) (k : PocketNo) :
    (s.faultPocket k).pendingHas x = true := by
  unfold faultPocket
  split
  · exact h
  · exact pendingHas_raise (by rwa [putPocket_pendingHas]) _

/-- R93: what FAULT makes of a pocket. -/
theorem faultPocket_pocket_same (h : (s.pocket k).state ≠ .fault) : (s.faultPocket k).pocket k
    = { s.pocket k with state := .fault, strapTimer := none, strapOrder := none } := by
  rw [faultPocket_of_not_fault h, pocket_raise, pocket_storePocket_same]

theorem faultPocket_raised (h : (s.pocket k).state ≠ .fault) : (s.faultPocket k).pendingHas .pocketFault = true := by
  rw [faultPocket_of_not_fault h]
  exact pendingHas_raise_self _ _

end State
end Sys2Proof.Machine

/-! SUPPORT. The edges of a pocket's eyes, and the statements about them. -/

namespace Sys2Proof.Machine

/- One theorem at a time: many at once exhaust the threads. -/
set_option Elab.async false

variable {s t u : State} {j k : PocketNo} {p q : Pocket} {active : Bool}

namespace Pocket

/-! ## Loose pockets against their limit (R72) -/

theorem isLoose_of_assignment {cls : Option ClassNo} {pure : Bool} {capacity allowance : Nat}
    (h : p.assignment = some { cls := cls, kind := .loose capacity allowance, pure := pure }) : p.isLoose = true := by
  simp [isLoose, h]

/-- R72: OPEN and FULL as they follow the limit, before a loose pocket's completion. -/
def levelled (p : Pocket) : Pocket :=
  if p.state = .open ∧ p.filled = p.limit then { p with state := .full }
  else if p.state = .full ∧ p.filled < p.limit then { p with state := .open }
  else p

theorem limitTest_of_loose (h : p.isLoose = true) : p.limitTest = p.levelled.completionTest := by
  have loose : p.levelled.isLoose = true := by
    unfold levelled
    split
    · exact h
    · split <;> exact h
  exact if_pos loose

theorem levelled_of_room (hs : p.state = .open ∨ p.state = .full) (room : p.committed + p.held < p.limit) :
    p.levelled = { p with state := .open } := by
  have below : p.filled < p.limit := room
  unfold levelled
  rw [if_neg fun h => below.ne h.2]
  rcases hs with hs | hs
  · rw [if_neg fun h => by simp [hs] at h, ← hs]
  · rw [if_pos ⟨hs, below⟩]

theorem levelled_of_full (hs : p.state = .open ∨ p.state = .full) (full : p.committed + p.held = p.limit) :
    p.levelled = { p with state := .full } := by
  have level : p.filled = p.limit := full
  unfold levelled
  rcases hs with hs | hs
  · rw [if_pos ⟨hs, level⟩]
  · rw [if_neg fun h => by simp [hs] at h, if_neg fun h => h.2.ne level, ← hs]

/-- R72: the state of a loose pocket after its limit is tested. -/
theorem limitTest_state_of_loose (h : p.isLoose = true) (fits : p.committed + p.held ≤ p.limit) :
    (p.state = .open ∨ p.state = .full → p.limitTest.state
      = if p.committed + p.held < p.limit then .open else if p.committed = 0 then .awaitingRemoval else .full)
    ∧ (p.state ≠ .open → p.state ≠ .full → p.limitTest.state = p.state) := by
  rw [limitTest_of_loose h]
  refine ⟨fun hs => ?_, fun ho hf => ?_⟩
  · by_cases room : p.committed + p.held < p.limit
    · rw [if_pos room, levelled_of_room hs room, completionTest, if_neg fun x => by simp at x]
    · have full : p.committed + p.held = p.limit := by omega
      have loose : isLoose { p with state := .full } = true := h
      rw [if_neg room, levelled_of_full hs full, completionTest]
      by_cases hc : p.committed = 0
      · have held : p.held = p.limit := by omega
        rw [if_pos ⟨rfl, hc, held⟩, if_pos loose, if_pos hc]
      · rw [if_neg fun x => hc x.2.1, if_neg hc]
  · have same : p.levelled = p := by
      unfold levelled
      rw [if_neg fun x => ho x.1, if_neg fun x => hf x.1]
    rw [same, completionTest, if_neg fun x => hf x.1]

theorem setLimit_eq (p : Pocket) : p.setLimit = { p with limit := p.limitFor, state := p.setLimit.state } :=
  limitTest_keeps { p with limit := p.limitFor }

/-- R72: the limit of a loose pocket is not below the notes in it. -/
theorem limitFor_of_loose {cls : Option ClassNo} {pure : Bool} {capacity allowance : Nat}
    (h : p.assignment = some { cls := cls, kind := .loose capacity allowance, pure := pure }) : p.limitFor
      = (if p.stackEye then max (p.committed + p.held) (min capacity (p.committed + p.held + allowance))
          else max capacity (p.committed + p.held))
    ∧ p.committed + p.held ≤ p.limitFor := by
  have limit : p.limitFor
      = (if p.stackEye then max (p.committed + p.held) (min capacity (p.committed + p.held + allowance))
          else max capacity (p.committed + p.held)) := by
    rw [limitFor, h]
    rfl
  refine ⟨limit, ?_⟩
  rw [limit]
  split
  · exact le_max_left _ _
  · exact le_max_right _ _

/-- R72: what the setting of its limit makes of a loose pocket. -/
theorem setLimit_of_loose {cls : Option ClassNo} {pure : Bool} {capacity allowance limit : Nat}
    (h : p.assignment = some { cls := cls, kind := .loose capacity allowance, pure := pure })
    (hl : limit = (if p.stackEye then max (p.committed + p.held) (min capacity (p.committed + p.held + allowance))
      else max capacity (p.committed + p.held))) :
    p.setLimit = { p with limit := limit, state := p.setLimit.state }
      ∧ (p.state = .open ∨ p.state = .full → p.setLimit.state
        = if p.committed + p.held < limit then .open else if p.committed = 0 then .awaitingRemoval else .full)
      ∧ (p.state ≠ .open → p.state ≠ .full → p.setLimit.state = p.state) := by
  obtain ⟨set, fits⟩ := limitFor_of_loose h
  rw [← hl] at set
  rw [set] at fits
  have loose : isLoose { p with limit := limit } = true := isLoose_of_assignment h
  have test : p.setLimit = limitTest { p with limit := limit } := by rw [setLimit, set]
  rw [test]
  exact ⟨limitTest_keeps _, limitTest_state_of_loose loose fits⟩

/-- R85: the limit of a pocket that reopens with nothing in it or committed to it. -/
theorem limitFor_of_empty {cls : Option ClassNo} {kind : PocketKind} {pure : Bool}
    (h : p.assignment = some { cls := cls, kind := kind, pure := pure }) (hc : p.committed = 0) (hh : p.held = 0) :
    p.limitFor = match kind with
      | .strapped size => size
      | .loose capacity allowance => if p.stackEye then min capacity allowance else capacity := by
  cases kind <;> simp [limitFor, h, filled, hc, hh]

end Pocket

namespace State

/-! ## Eyes and deltas after an event -/

theorem AgreesWith.eyes (h : t.AgreesWith s) (k : PocketNo) :
    (t.pocket k).emptyEye = (s.pocket k).emptyEye ∧ (t.pocket k).stackEye = (s.pocket k).stackEye
      ∧ (t.pocket k).emptyDelta = (s.pocket k).emptyDelta ∧ (t.pocket k).stackDelta = (s.pocket k).stackDelta := by
  have steady := steady_pocket_of_eq h k
  simp only [Pocket.steady, Pocket.mk.injEq] at steady
  simp [steady]

/-- A removal at the end of an event empties the pocket and issues its record. -/
theorem settle_removal (hs : (s.pocket k).state = .awaitingRemoval) (he : (s.pocket k).emptyEye = false)
    (hr : (s.pocket k).record = none) (ho : (s.pocket k).strapOrder = none) (ht : (s.pocket k).strapTimer = none) :
    (s.settle.pocket k).held = 0 ∧ s.settle.Recorded k ((s.pocket k).bundleRecord .removed) := by
  obtain ⟨next, moves⟩ := settle_removed hs he hr
  have emptied : ((s.pocket k).nextBundle s.tbs.active k next).Emptied :=
    (Pocket.issue_emptied ho ht (by simp [hs]) .removed next).restart _ _
  obtain ⟨-, -, -, -, record⟩ := Pocket.fields_of_contents
    (Pocket.contents_restart s.tbs.active k ((s.pocket k).issue .removed next))
  refine ⟨(Pocket.EndMove.chain_keeps moves (P := fun x => x.1.Emptied) (fun hx e => e.emptied hx) emptied).1, ?_⟩
  have recorded := Pocket.EndMove.chain_keeps moves
    (P := fun x => x.1.record = some ((s.pocket k).bundleRecord .removed)
      ∨ x.2 = some (s.recordFrame k ((s.pocket k).bundleRecord .removed))) (fun hx e => e.recorded hx) (.inl record)
  rw [← recordFrame_of_station (settle_moves k s).2.1 k, endingAt] at recorded
  dsimp only at recorded
  exact recorded_iff.mpr recorded

/-- R91: after a removal a pocket with its changeover marker set has its new assignment. -/
theorem settle_removal_changeover (hs : (s.pocket k).state = .awaitingRemoval) (he : (s.pocket k).emptyEye = false)
    (hr : (s.pocket k).record = none) (hm : (s.pocket k).changeover = true) :
    (s.settle.pocket k).assignment = s.tbs.active.assignmentFor k ∧ (s.settle.pocket k).changeover = false := by
  obtain ⟨next, moves⟩ := settle_removed hs he hr
  have marked : ((s.pocket k).issue .removed next).changeover = true := hm
  have taken : (s.pocket k).nextBundle s.tbs.active k next
      = ((s.pocket k).issue .removed next).takeAssignment s.tbs.active k := if_pos marked
  rw [taken] at moves
  have assigned := Pocket.EndMove.chain_keeps moves
    (P := fun x => x.1.assignment = s.tbs.active.assignmentFor k ∧ x.1.changeover = false)
    (fun hx e => e.assigned hx) (Pocket.takeAssignment_assignment _ _ _)
  rw [endingAt] at assigned
  dsimp only at assigned
  exact assigned

/-- R85: after a removal a pocket with room and no changeover marker is OPEN under its limit. -/
theorem settle_removal_reopens {limit : Nat} (hs : (s.pocket k).state = .awaitingRemoval)
    (he : (s.pocket k).emptyEye = false) (hr : (s.pocket k).record = none) (ho : (s.pocket k).strapOrder = none)
    (hm : (s.pocket k).changeover = false)
    (hl : ∀ next, Pocket.limitFor { (s.pocket k).issue .removed next with state := .open } = limit)
    (room : (s.pocket k).committed < limit) :
    (s.settle.pocket k).state = .open ∧ (s.settle.pocket k).limit = limit := by
  obtain ⟨next, moves⟩ := settle_removed hs he hr
  have unmarked : ((s.pocket k).issue .removed next).changeover = false := hm
  have reopened : (s.pocket k).nextBundle s.tbs.active k next
      = { (s.pocket k).issue .removed next with limit := limit, state := .open } := by
    rw [Pocket.nextBundle, Pocket.restart, unmarked, if_neg Bool.false_ne_true]
    exact Pocket.reopen_of_room (hl next) room
  rw [reopened] at moves
  have rest : Pocket.AtRest { (s.pocket k).issue .removed next with limit := limit, state := .open } :=
    .of_state ho (by simp) (by simp)
  have kept := Pocket.EndMove.chain_keeps moves
    (P := fun x => x.1 = { (s.pocket k).issue .removed next with limit := limit, state := .open, record := x.1.record })
    (fun hx e => e.of_atRest rest hx) rfl
  rw [endingAt] at kept
  dsimp only at kept
  exact ⟨congrArg Pocket.state kept, congrArg Pocket.limit kept⟩

/-! ## An edge of an empty eye (R86, R87) -/

theorem noteEmptyEdge_pocket_same (k : PocketNo) (active : Bool) (s : State) :
    (s.noteEmptyEdge k active).pocket k = { s.pocket k with emptyEye := active, emptyDelta := true } := by
  simp [noteEmptyEdge]

theorem noteEmptyEdge_pocketOnly (k : PocketNo) (active : Bool) (s : State) : (s.noteEmptyEdge k active).PocketOnly s :=
  (raise_pocketOnly _ _).trans (storePocket_pocketOnly rfl)

theorem emptyEdgeActs_disabled (h : (s.pocket k).state = .disabled) (active : Bool) :
    s.emptyEdgeActs k active = s.storePocket k { s.pocket k with unaccounted := active } := by
  unfold emptyEdgeActs
  rw [h]
  exact putPocket_of_not_opened fun hs => hs

theorem emptyEdgeActs_rests (h : (s.pocket k).state = .unaccounted ∨ (s.pocket k).state = .strapping
    ∨ (s.pocket k).state = .awaitingRemoval ∨ (s.pocket k).state = .fault) (active : Bool) :
    s.emptyEdgeActs k active = s := by
  unfold emptyEdgeActs
  rcases h with h | h | h | h <;> rw [h]

theorem notesTaken_strapped (hp : (s.pocket k).isStrapped = true) (hh : 0 < (s.pocket k).held) :
    s.notesTaken k = s.faultPocket k := by
  unfold notesTaken
  simp only [hh.ne', hp, if_false, if_true]

theorem notesTaken_loose (hp : (s.pocket k).isLoose = true) (hh : 0 < (s.pocket k).held) : s.notesTaken k
    = if 0 < (s.pocket k).committed then s.faultPocket k
      else s.storePocket k { s.pocket k with
        state := .awaitingRemoval, short := (s.pocket k).short || decide ((s.pocket k).held < (s.pocket k).limit) } := by
  have notStrapped : ¬ (s.pocket k).isStrapped = true := fun h => by
    simp [Pocket.isLoose_of_isStrapped h] at hp
  unfold notesTaken
  dsimp only
  rw [if_neg hh.ne', if_neg notStrapped, if_pos hp, putPocket_of_not_opened fun h => by simp at h]

theorem emptyEdgeActs_taken (h : (s.pocket k).state ∈ [.open, .full, .closing]) :
    s.emptyEdgeActs k false = s.notesTaken k := by
  unfold emptyEdgeActs
  simp only [List.mem_cons, List.not_mem_nil, or_false] at h
  rcases h with h | h | h <;> rw [h] <;> rfl

theorem emptyEdgeActs_complete (h : (s.pocket k).state = .complete) : s.emptyEdgeActs k false = s.completeTaken k := by
  unfold emptyEdgeActs
  rw [h]
  rfl

theorem emptyEdgeActs_inhibited (h : (s.pocket k).state = .inhibited) :
    s.emptyEdgeActs k false = s.inhibitedTaken k := by
  unfold emptyEdgeActs
  rw [h]
  rfl

theorem emptyEdgeActs_strapped (hp : (s.pocket k).isStrapped = true) (hh : 0 < (s.pocket k).held)
    (h : (s.pocket k).state ∈ [.open, .full, .closing, .complete, .inhibited]) :
    s.emptyEdgeActs k false = s.faultPocket k := by
  have taken := notesTaken_strapped hp hh
  simp only [List.mem_cons, List.not_mem_nil, or_false] at h
  rcases h with h | h | h | h | h
  · rw [emptyEdgeActs_taken (by simp [h]), taken]
  · rw [emptyEdgeActs_taken (by simp [h]), taken]
  · rw [emptyEdgeActs_taken (by simp [h]), taken]
  · rw [emptyEdgeActs_complete h, completeTaken, if_pos ⟨hp, hh⟩]
  · rw [emptyEdgeActs_inhibited h, inhibitedTaken, if_pos (.inl ⟨hp, hh⟩)]

theorem inhibitedTaken_loose (hp : (s.pocket k).isLoose = true) :
    s.inhibitedTaken k = if 0 < (s.pocket k).committed then s.faultPocket k else s := by
  have notStrapped : ¬ (s.pocket k).isStrapped = true := fun h => by
    simp [Pocket.isLoose_of_isStrapped h] at hp
  unfold inhibitedTaken
  simp only [notStrapped, hp, false_and, true_and, false_or, Bool.false_eq_true]

/-- What an edge of an empty eye can do: mark a DISABLED pocket, nothing, FAULT, or wait for the removal of a loose bundle. -/
theorem emptyEdgeActs_cases (k : PocketNo) (active : Bool) (s : State) :
    s.emptyEdgeActs k active = s.storePocket k { s.pocket k with unaccounted := active }
    ∨ s.emptyEdgeActs k active = s ∨ s.emptyEdgeActs k active = s.faultPocket k
    ∨ s.emptyEdgeActs k active = s.storePocket k { s.pocket k with
        state := .awaitingRemoval, short := (s.pocket k).short || decide ((s.pocket k).held < (s.pocket k).limit) } := by
  have taken : s.notesTaken k = s ∨ s.notesTaken k = s.faultPocket k ∨ s.notesTaken k = s.storePocket k { s.pocket k with
      state := .awaitingRemoval, short := (s.pocket k).short || decide ((s.pocket k).held < (s.pocket k).limit) } := by
    by_cases hh : 0 < (s.pocket k).held
    · by_cases hs : (s.pocket k).isStrapped = true
      · exact .inr (.inl (notesTaken_strapped hs hh))
      · by_cases hl : (s.pocket k).isLoose = true
        · rw [notesTaken_loose hl hh]
          split
          · exact .inr (.inl rfl)
          · exact .inr (.inr rfl)
        · refine .inl ?_
          unfold notesTaken
          dsimp only
          rw [if_neg hh.ne', if_neg hs, if_neg hl]
    · exact .inl (if_pos (by omega))
  have edge {a : State} (ha : a = s ∨ a = s.faultPocket k ∨ a = s.storePocket k { s.pocket k with
      state := .awaitingRemoval, short := (s.pocket k).short || decide ((s.pocket k).held < (s.pocket k).limit) }) :
      (if active then s else a) = s ∨ (if active then s else a) = s.faultPocket k
        ∨ (if active then s else a) = s.storePocket k { s.pocket k with
          state := .awaitingRemoval,
          short := (s.pocket k).short || decide ((s.pocket k).held < (s.pocket k).limit) } := by
    cases active
    · exact ha
    · exact .inl rfl
  have faulted {c : Prop} [Decidable c] : (if c then s.faultPocket k else s) = s
      ∨ (if c then s.faultPocket k else s) = s.faultPocket k
      ∨ (if c then s.faultPocket k else s) = s.storePocket k { s.pocket k with
          state := .awaitingRemoval,
          short := (s.pocket k).short || decide ((s.pocket k).held < (s.pocket k).limit) } := by
    split
    · exact .inr (.inl rfl)
    · exact .inl rfl
  by_cases hd : (s.pocket k).state = .disabled
  · exact .inl (emptyEdgeActs_disabled hd active)
  · refine .inr ?_
    unfold emptyEdgeActs
    split <;> rename_i h
    · exact absurd h hd
    · exact edge taken
    · exact edge taken
    · exact edge taken
    · exact edge faulted
    · exact edge faulted
    all_goals exact .inl rfl

/-- An edge of an empty eye is an event at its pocket alone. -/
theorem emptyEdgeActs_pocketOnly (k : PocketNo) (active : Bool) (s : State) : (s.emptyEdgeActs k active).PocketOnly s := by
  rcases emptyEdgeActs_cases k active s with h | h | h | h <;> rw [h]
  · exact storePocket_pocketOnly rfl
  · exact .refl s
  · exact faultPocket_pocketOnly k s
  · exact storePocket_pocketOnly rfl

theorem faultPocket_eyes (k : PocketNo) (s : State) : ((s.faultPocket k).pocket k).emptyEye = (s.pocket k).emptyEye
    ∧ ((s.faultPocket k).pocket k).emptyDelta = (s.pocket k).emptyDelta := by
  by_cases h : (s.pocket k).state = .fault
  · rw [faultPocket, if_pos h]
    exact ⟨rfl, rfl⟩
  · rw [faultPocket_pocket_same h]
    exact ⟨rfl, rfl⟩

theorem emptyEdgeActs_eyes (k : PocketNo) (active : Bool) (s : State) :
    ((s.emptyEdgeActs k active).pocket k).emptyEye = (s.pocket k).emptyEye
      ∧ ((s.emptyEdgeActs k active).pocket k).emptyDelta = (s.pocket k).emptyDelta := by
  rcases emptyEdgeActs_cases k active s with h | h | h | h <;> rw [h]
  · rw [pocket_storePocket_same]
    exact ⟨rfl, rfl⟩
  · exact ⟨rfl, rfl⟩
  · exact faultPocket_eyes k s
  · rw [pocket_storePocket_same]
    exact ⟨rfl, rfl⟩

theorem emptyEdgeActs_pendingHas {x : EventKind} (hx : s.pendingHas x = true) (k : PocketNo) (active : Bool) :
    (s.emptyEdgeActs k active).pendingHas x = true := by
  rcases emptyEdgeActs_cases k active s with h | h | h | h <;> rw [h]
  · exact hx
  · exact hx
  · exact faultPocket_pendingHas hx k
  · exact hx

/-- R86, R87: what an edge of the empty eye of pocket `k` leaves before the end of its event. -/
def emptyEdged (k : PocketNo) (active : Bool) (s : State) : State := (s.noteEmptyEdge k active).emptyEdgeActs k active

theorem emptyEdged_pocketOnly (k : PocketNo) (active : Bool) (s : State) : (s.emptyEdged k active).PocketOnly s :=
  (emptyEdgeActs_pocketOnly k active _).trans (noteEmptyEdge_pocketOnly k active s)

theorem OrdersInPlace.strapOrder (h : s.OrdersInPlace) (hs : (s.pocket k).state ≠ .complete) :
    (s.pocket k).strapOrder = none := by
  by_contra hn
  exact hs ((h k).1 hn)

theorem OrdersInPlace.strapTimer (h : s.OrdersInPlace) (hs : (s.pocket k).state ≠ .strapping) :
    (s.pocket k).strapTimer = none := by
  by_contra hn
  exact hs ((h k).2 hn)

/-- A pocket that FAULT has been entered at stays there. -/
theorem settle_faulted (h : ((s.faultPocket k).pocket k).strapOrder = none) :
    ((s.faultPocket k).settle.pocket k).state = .fault := by
  have state := faultPocket_state k s
  rw [settle_atRest_state (.of_state h (by simp [state]) (by simp [state])), state]

theorem faultPocket_strapOrder (h : (s.pocket k).state ≠ .fault) : ((s.faultPocket k).pocket k).strapOrder = none := by
  rw [faultPocket_pocket_same h]

theorem emptyEdged_fault (hs : (s.pocket k).state ≠ .fault)
    (h : s.emptyEdged k active = (s.noteEmptyEdge k active).faultPocket k) :
    ((s.emptyEdged k active).settle.pocket k).state = .fault := by
  rw [h]
  exact settle_faulted (faultPocket_strapOrder (by rwa [noteEmptyEdge_pocket_same]))

theorem emptyEdged_rests (h : (s.pocket k).state = .unaccounted ∨ (s.pocket k).state = .strapping
    ∨ (s.pocket k).state = .awaitingRemoval ∨ (s.pocket k).state = .fault) (active : Bool) :
    (s.emptyEdged k active).pocket k = { s.pocket k with emptyEye := active, emptyDelta := true } := by
  have noted := noteEmptyEdge_pocket_same k active s
  rw [emptyEdged, emptyEdgeActs_rests (by rwa [noted]), noted]

theorem emptyEdged_tbs (k : PocketNo) (active : Bool) (s : State) : (s.emptyEdged k active).tbs = s.tbs := by
  obtain ⟨-, ⟨-, -, tables, -⟩, -⟩ := emptyEdged_pocketOnly k active s
  exact tables

/-- R85: the removal of the notes of a pocket in AWAITING_REMOVAL. -/
theorem emptyEdged_removed (ho : s.OrdersInPlace) (hs : (s.pocket k).state = .awaitingRemoval)
    (hr : (s.pocket k).record = none) :
    ((s.emptyEdged k false).settle.pocket k).held = 0
      ∧ (s.emptyEdged k false).settle.Recorded k ((s.pocket k).bundleRecord .removed)
      ∧ ((s.pocket k).changeover = true →
          ((s.emptyEdged k false).settle.pocket k).assignment = s.tbs.active.assignmentFor k
            ∧ ((s.emptyEdged k false).settle.pocket k).changeover = false)
      ∧ ∀ cls pure capacity allowance limit, (s.pocket k).changeover = false → (s.pocket k).committed = 0 →
          (s.pocket k).assignment = some { cls := cls, kind := .loose capacity allowance, pure := pure } →
          limit = (if (s.pocket k).stackEye then min capacity allowance else capacity) → 0 < limit →
          ((s.emptyEdged k false).settle.pocket k).state = .open
            ∧ ((s.emptyEdged k false).settle.pocket k).limit = limit := by
  have tables := emptyEdged_tbs k false s
  have pocket := emptyEdged_rests (.inr (.inr (.inl hs))) false
  have order := ho.strapOrder (k := k) (by simp [hs])
  have timer := ho.strapTimer (k := k) (by simp [hs])
  generalize s.emptyEdged k false = u at *
  have state : (u.pocket k).state = .awaitingRemoval := by rwa [pocket]
  have eye : (u.pocket k).emptyEye = false := by rw [pocket]
  have record : (u.pocket k).record = none := by rwa [pocket]
  obtain ⟨held, recorded⟩ := settle_removal state eye record (by rwa [pocket]) (by rwa [pocket])
  rw [pocket] at recorded
  refine ⟨held, recorded, fun hm => ?_, fun cls pure capacity allowance limit hm hc hk hl room => ?_⟩
  · rw [← tables]
    exact settle_removal_changeover state eye record (by rwa [pocket])
  · refine settle_removal_reopens state eye record (by rw [pocket]; exact order) (by rw [pocket]; exact hm)
      (fun next => ?_) ?_
    · rw [pocket, hl]
      exact Pocket.limitFor_of_empty (kind := .loose capacity allowance) (by exact hk) (by exact hc) (by rfl)
    · rw [pocket]
      exact hc.trans_lt room

/-- R86: a pocket from which the notes of a loose bundle have gone waits for the record of their removal, which is issued. -/
theorem emptyEdged_removal (ho : s.OrdersInPlace) (hp : (s.pocket k).isLoose = true) (hh : 0 < (s.pocket k).held)
    (hs : (s.pocket k).state ∈ [.open, .full, .closing]) (hc : (s.pocket k).committed = 0)
    (hr : (s.pocket k).record = none) :
    ((s.emptyEdged k false).settle.pocket k).held = 0
      ∧ (s.emptyEdged k false).settle.Recorded k (Pocket.bundleRecord .removed
          { s.pocket k with short := (s.pocket k).short || decide ((s.pocket k).held < (s.pocket k).limit) }) := by
  have noted := noteEmptyEdge_pocket_same k false s
  have loose : ((s.noteEmptyEdge k false).pocket k).isLoose = true := by
    rw [noted]
    exact hp
  have left : s.emptyEdged k false = (s.noteEmptyEdge k false).storePocket k { s.pocket k with
      emptyEye := false, emptyDelta := true, state := .awaitingRemoval,
      short := (s.pocket k).short || decide ((s.pocket k).held < (s.pocket k).limit) } := by
    rw [emptyEdged, emptyEdgeActs_taken (by rwa [noted]), notesTaken_loose loose (by rwa [noted]), noted]
    exact if_neg (by simp [hc])
  have pocket : (s.emptyEdged k false).pocket k = { s.pocket k with
      emptyEye := false, emptyDelta := true, state := .awaitingRemoval,
      short := (s.pocket k).short || decide ((s.pocket k).held < (s.pocket k).limit) } := by
    rw [left, pocket_storePocket_same]
  have order : (s.pocket k).strapOrder = none := ho.strapOrder fun h => by simp [h] at hs
  have timer : (s.pocket k).strapTimer = none := ho.strapTimer fun h => by simp [h] at hs
  have removal := settle_removal (s := s.emptyEdged k false) (k := k) (by rw [pocket]) (by rw [pocket])
    (by rwa [pocket]) (by rwa [pocket]) (by rwa [pocket])
  rw [pocket] at removal
  exact removal

/-! ## An edge of a stack eye (R72, R87) -/

/-- R72, R87: what an edge of the stack eye of pocket `k` leaves before the end of its event. -/
def stackEdged (k : PocketNo) (active : Bool) (s : State) : State := (s.noteStackEdge k active).stackEdgeActs k

theorem noteStackEdge_pocket_same (k : PocketNo) (active : Bool) (s : State) :
    (s.noteStackEdge k active).pocket k = { s.pocket k with stackEye := active, stackDelta := true } := by
  simp [noteStackEdge]

theorem stackEdged_pocket_same (k : PocketNo) (active : Bool) (s : State) : (s.stackEdged k active).pocket k
    = if (s.pocket k).isLoose then Pocket.setLimit { s.pocket k with stackEye := active, stackDelta := true }
      else { s.pocket k with stackEye := active, stackDelta := true } := by
  have loose : ((s.noteStackEdge k active).pocket k).isLoose = (s.pocket k).isLoose := by
    rw [noteStackEdge_pocket_same]
    rfl
  unfold stackEdged stackEdgeActs
  rw [loose]
  split
  · rw [putPocket_pocket_same, noteStackEdge_pocket_same]
  · exact noteStackEdge_pocket_same k active s

theorem stackEdgeActs_pocketOnly (k : PocketNo) (s : State) : (s.stackEdgeActs k).PocketOnly s := by
  unfold stackEdgeActs
  split
  · exact putPocket_pocketOnly (Pocket.fields_of_contents (Pocket.contents_setLimit _)).1
  · exact .refl s

theorem stackEdged_pocketOnly (k : PocketNo) (active : Bool) (s : State) : (s.stackEdged k active).PocketOnly s :=
  (stackEdgeActs_pocketOnly k _).trans ((raise_pocketOnly _ _).trans (storePocket_pocketOnly rfl))

theorem stackEdged_pendingHas (k : PocketNo) (active : Bool) (s : State) :
    (s.stackEdged k active).pendingHas .pocketEyeChange = true := by
  have noted : (s.noteStackEdge k active).pendingHas .pocketEyeChange = true := pendingHas_raise_self _ _
  unfold stackEdged stackEdgeActs
  split
  · rwa [putPocket_pendingHas]
  · exact noted

end State
end Sys2Proof.Machine

section
open Sys2Proof Sys2Proof.Machine

/-- Settles O28: an edge is an event at its pocket alone, whose outcome goes by the state of the pocket; the end of the event
issues the record of a removal, and leaves a pocket in any other state there. -/
theorem emptyEyeEdge : Obligations.EmptyEyeEdge := by
  intro s k active ho
  obtain ⟨rest, line, counters⟩ : (s.emptyEdged k active).settle.PocketOnly s :=
    (State.settle_pocketOnly _).trans (State.emptyEdged_pocketOnly k active s)
  have agrees : (s.emptyEdged k active).settle.AgreesWith (s.emptyEdged k active) := settle_steady _
  have noted (active : Bool) := State.noteEmptyEdge_pocket_same k active s
  have acted := State.emptyEdgeActs_eyes k active (s.noteEmptyEdge k active)
  obtain ⟨eye, -, delta, -⟩ := agrees.eyes k
  refine ⟨(s.emptyEdged k active).settle, rfl, rest, line, counters, ?_, ?_, ?_, fun hs => ?_, fun hs => ?_, fun ha hp hh hs => ?_,
    fun ha hp hh hs hc => ?_, fun ha hp hh hs hc hr => ?_, fun ha hs hr => ?_, fun ha hp hs => ?_⟩
  · exact (eye.trans acted.1).trans (by rw [noted])
  · exact (delta.trans acted.2).trans (by rw [noted])
  · exact (agrees.pendingHas .pocketEyeChange (by decide)).trans
      (State.emptyEdgeActs_pendingHas (State.pendingHas_raise_self _ _) k active)
  · have marked : (s.emptyEdged k active).pocket k
        = { s.pocket k with emptyEye := active, emptyDelta := true, unaccounted := active } := by
      rw [State.emptyEdged, State.emptyEdgeActs_disabled (by rwa [noted]), State.pocket_storePocket_same, noted]
    have atRest : ((s.emptyEdged k active).pocket k).AtRest := by
      rw [marked]
      exact .of_state (ho.strapOrder (by simp [hs])) (by simp [hs]) (by simp [hs])
    have settled := State.settle_atRest atRest
    rw [marked] at settled
    exact ⟨(congrArg Pocket.state settled).trans hs, (congrArg Pocket.unaccounted settled).trans rfl⟩
  · have kept := State.emptyEdged_rests (k := k) (s := s) (by rcases hs with hs | hs | hs <;> simp [hs]) active
    have atRest : ((s.emptyEdged k active).pocket k).AtRest := by
      rw [kept]
      exact .of_state (ho.strapOrder (by rcases hs with hs | hs | hs <;> simp [hs]))
        (by rcases hs with hs | hs | hs <;> simp [hs]) (by rcases hs with hs | hs | hs <;> simp [hs])
    exact (State.settle_atRest_state atRest).trans (by rw [kept])
  · subst ha
    refine State.emptyEdged_fault (fun h => by simp [h] at hs) (State.emptyEdgeActs_strapped ?_ ?_ ?_)
    · rw [noted]
      exact hp
    · rwa [noted]
    · rwa [noted]
  · subst ha
    refine State.emptyEdged_fault (fun h => by simp [h] at hs) ?_
    rw [State.emptyEdged, State.emptyEdgeActs_taken (by rwa [noted]),
      State.notesTaken_loose (by rw [noted]; exact hp) (by rwa [noted]), noted]
    exact if_pos hc
  · subst ha
    exact State.emptyEdged_removal ho hp hh hs hc hr
  · subst ha
    exact State.emptyEdged_removed ho hs hr
  · subst ha
    have state : ((s.noteEmptyEdge k false).pocket k).state = .inhibited := by
      rw [noted]
      exact hs
    have loose : ((s.noteEmptyEdge k false).pocket k).isLoose = true := by
      rw [noted]
      exact hp
    have taken : s.emptyEdged k false
        = if 0 < (s.pocket k).committed then (s.noteEmptyEdge k false).faultPocket k else s.noteEmptyEdge k false := by
      rw [State.emptyEdged, State.emptyEdgeActs_inhibited state, State.inhibitedTaken_loose loose, noted]
    by_cases hc : 0 < (s.pocket k).committed
    · rw [if_pos hc]
      exact State.emptyEdged_fault (by simp [hs]) (taken.trans (if_pos hc))
    · have kept : (s.emptyEdged k false).pocket k = { s.pocket k with emptyEye := false, emptyDelta := true } := by
        rw [taken, if_neg hc, noted]
      have atRest : ((s.emptyEdged k false).pocket k).AtRest := by
        rw [kept]
        exact .of_state (ho.strapOrder (by simp [hs])) (by simp [hs]) (by simp [hs])
      rw [if_neg hc, State.settle_atRest_state atRest, kept]
      exact hs

/-- Settles O29: an edge is an event at its pocket alone; at a loose pocket it sets the limit, which the state follows, and the
end of the event waits for nothing at a pocket whose empty eye sees content. -/
theorem stackEyeEdge : Obligations.StackEyeEdge := by
  intro s k active ho
  obtain ⟨rest, line, counters⟩ : (s.stackEdged k active).settle.PocketOnly s :=
    (State.settle_pocketOnly _).trans (State.stackEdged_pocketOnly k active s)
  have agrees : (s.stackEdged k active).settle.AgreesWith (s.stackEdged k active) := settle_steady _
  have edged := State.stackEdged_pocket_same k active s
  obtain ⟨-, eye, -, delta⟩ := agrees.eyes k
  have levels : ((s.stackEdged k active).pocket k).stackEye = active
      ∧ ((s.stackEdged k active).pocket k).stackDelta = true := by
    rw [edged]
    split
    · rw [Pocket.setLimit_eq]
      exact ⟨rfl, rfl⟩
    · exact ⟨rfl, rfl⟩
  refine ⟨(s.stackEdged k active).settle, rfl, rest, line, counters, eye.trans levels.1, delta.trans levels.2,
    (agrees.pendingHas .pocketEyeChange (by decide)).trans (State.stackEdged_pendingHas k active s),
    fun content fixed => ?_, fun cls pure capacity allowance filled limit content hk hf hl => ?_⟩
  · rw [fixed, if_neg Bool.false_ne_true] at edged
    obtain ⟨bundle, -⟩ := State.settle_sameBundle (s := s.stackEdged k active) (k := k) (.inl (by
      rw [State.ending, edged]
      exact content))
    rw [edged] at bundle
    refine ⟨(congrArg Pocket.limit bundle).trans rfl, fun hs => ?_⟩
    have atRest : ((s.stackEdged k active).pocket k).AtRest := by
      rw [edged]
      exact ⟨hs, ho.strapOrder hs, fun _ => content⟩
    rw [State.settle_atRest_state atRest, edged]
  · subst hf
    rw [if_pos (Pocket.isLoose_of_assignment hk)] at edged
    obtain ⟨set, follows, stays⟩ :=
      Pocket.setLimit_of_loose (p := { s.pocket k with stackEye := active, stackDelta := true }) hk hl
    rw [set] at edged
    have sees : ((s.stackEdged k active).pocket k).emptyEye = true := by
      rw [edged]
      exact content
    obtain ⟨bundle, -⟩ := State.settle_sameBundle (s := s.stackEdged k active) (k := k) (.inl sees)
    have state {st : PocketState} (hc : (s.pocket k).state ≠ .complete) (hst : st ≠ .complete)
        (hs : ((s.stackEdged k active).pocket k).state = st) : ((s.stackEdged k active).settle.pocket k).state = st := by
      have order : ((s.stackEdged k active).pocket k).strapOrder = none := by
        rw [edged]
        exact ho.strapOrder hc
      rw [State.settle_atRest_state ⟨by rwa [hs], order, fun _ => sees⟩, hs]
    refine ⟨?_, fun hs => ?_, fun hs => ?_⟩
    · rw [edged] at bundle
      exact (congrArg Pocket.limit bundle).trans rfl
    · refine state (by rcases hs with hs | hs <;> simp [hs]) ?_ ?_
      · split
        · decide
        · split <;> decide
      · rw [edged]
        exact follows hs
    · simp only [List.mem_cons, List.not_mem_nil, or_false, not_or] at hs
      refine state hs.2.2 hs.2.2 ?_
      rw [edged]
      exact stays hs.1 hs.2.1

end

/-! SUPPORT. The strap timer and the strap reports, and the statement about them. -/

namespace Sys2Proof.Machine

/- One theorem at a time: many at once exhaust the threads. -/
set_option Elab.async false

variable {s t u : State} {j k : PocketNo} {p q : Pocket} {own src corr result : Byte} {payload : List Byte}

/-! ## Pocket numbers (Table 12-1) -/

theorem pocketOfNumber_of_eq {n : Nat} (h : n = k.val + 1) : pocketOfNumber n = some k := by
  subst h
  have range : 1 ≤ k.val + 1 ∧ k.val + 1 ≤ 16 := ⟨by omega, k.isLt⟩
  rw [pocketOfNumber, dif_pos range]
  rfl

theorem pocketOfNumber_of_bad {n : Nat} (h : n = 0 ∨ 16 < n) : pocketOfNumber n = none :=
  dif_neg fun range => by omega

namespace State

/-! ## The end of a strapping with FAULT (R83, R84) -/

/-- R84: what the expiry of a strap timer leaves before the end of its event. -/
theorem strapTimeout_pocketOnly (k : PocketNo) (s : State) : (s.strapTimeout k).PocketOnly s :=
  (faultPocket_pocketOnly k _).trans (issueRecord_pocketOnly k _ s)

/-- R93, R95: a record and then FAULT at a STRAPPING pocket, at the end of the event. -/
theorem settle_recorded_fault {r : BundleRecord} (hs : (s.pocket k).state = .strapping)
    (hr : (s.pocket k).record = some r) (hh : (s.pocket k).held = 0) :
    (s.faultPocket k).settle.Recorded k r ∧ ((s.faultPocket k).settle.pocket k).state = .fault
      ∧ ((s.faultPocket k).settle.pocket k).held = 0 ∧ ((s.faultPocket k).settle.pocket k).strapTimer = none := by
  have fault := faultPocket_pocket_same (s := s) (k := k) (by simp [hs])
  have emptied : ((s.faultPocket k).pocket k).Emptied := by
    rw [fault]
    exact ⟨hh, rfl, rfl, by simp⟩
  obtain ⟨held, -, timer, -⟩ := settle_emptied emptied
  exact ⟨settle_recorded (by rw [fault]; exact hr), settle_faulted (faultPocket_strapOrder (by simp [hs])), held, timer⟩

/-! ## Strap reports (R83) -/

theorem sortOwn_strap (h : s.HearsFrom own src payload) (hl : payload.length = 6) :
    s.sortOwn src 0x02 corr payload = s.handStrap src payload := by
  obtain ⟨-, station, -, broadcast, self, -⟩ := h
  have other : ¬ (src = broadcastStation ∨ s.lnk.station = some src.toNat) := by
    rw [station, Option.some_inj, BitVec.toNat_inj]
    exact not_or.mpr ⟨broadcast, self.symm⟩
  unfold sortOwn
  rw [if_neg other, if_neg (by decide), if_pos rfl, if_pos hl]

/-- R83: a report that matches no pocket. -/
theorem receive_late {pk b3 b2 b1 b0 : Byte} (h : s.HearsFrom own src [pk, b3, b2, b1, b0, result])
    (hm : s.strapMatch src [pk, b3, b2, b1, b0, result] = none) :
    ∃ t, exec (.linkFrameReceived (frameBytes own src 0x02 corr [pk, b3, b2, b1, b0, result])) s = .next t
      ∧ t.AgreesWith ((s.bump .lateStrapReports).raise .strapLate) := by
  have late : s.sortOwn src 0x02 corr [pk, b3, b2, b1, b0, result] = (s.bump .lateStrapReports).raise .strapLate := by
    rw [sortOwn_strap h rfl, handStrap, hm]
  have received := receive_own h 0x02 corr
  rw [late] at received
  exact ⟨_, received, settle_steady _⟩

/-- R83: what a report matches, by its pocket number and its bundle number. -/
theorem strapMatch_of_number {pk b3 b2 b1 b0 : Byte} (hk : pk.toNat = k.val + 1) (s : State) :
    s.strapMatch src [pk, b3, b2, b1, b0, result]
      = if s.tbs.params.strappingStation = some src.toNat ∧ (s.pocket k).state = .strapping
          ∧ (s.pocket k).bundle = some (b3.toNat * 16777216 + b2.toNat * 65536 + b1.toNat * 256 + b0.toNat)
        then some k else none := by
  have number : number32At [pk, b3, b2, b1, b0, result] 1
      = b3.toNat * 16777216 + b2.toNat * 65536 + b1.toNat * 256 + b0.toNat := by
    simp only [number32At, number16At, byteAt, List.getD_cons_succ, List.getD_cons_zero]
    omega
  have pocket : pocketOfNumber (count8At [pk, b3, b2, b1, b0, result] 0) = some k := pocketOfNumber_of_eq hk
  rw [strapMatch, pocket, number]

/-- R83: what a matching report with result OK leaves of the pocket before FAULT or its next bundle. -/
def strapped (k : PocketNo) (s : State) : State :=
  (s.issueRecord k .strapped).putPocket k { (s.issueRecord k .strapped).pocket k with strapTimer := none }

theorem strapped_pocketOnly (k : PocketNo) (s : State) : (s.strapped k).PocketOnly s := by
  refine PocketOnly.trans (putPocket_pocketOnly ?_) (issueRecord_pocketOnly k .strapped s)
  rfl

theorem strapped_pocket_same (k : PocketNo) (s : State) : (s.strapped k).pocket k
    = { (s.pocket k).issue .strapped s.pkm.nextBundle with strapTimer := none } := by
  rw [strapped, putPocket_pocket_same, issueRecord_pocket_same]

theorem strapped_tbs (k : PocketNo) (s : State) : (s.strapped k).tbs = s.tbs := by simp [strapped]

theorem strapOk_eq (k : PocketNo) (s : State) : s.strapOk k
    = if (s.pocket k).emptyEye then (s.strapped k).faultPocket k else (s.strapped k).startBundle k := by
  have eye : ((s.strapped k).pocket k).emptyEye = (s.pocket k).emptyEye := by
    rw [strapped_pocket_same]
    rfl
  rw [← eye]
  rfl

theorem strapOk_pocketOnly (k : PocketNo) (s : State) : (s.strapOk k).PocketOnly s := by
  rw [strapOk_eq]
  split
  · exact (faultPocket_pocketOnly k _).trans (strapped_pocketOnly k s)
  · exact (startBundle_pocketOnly k _).trans (strapped_pocketOnly k s)

theorem strapFailed_pocketOnly (k : PocketNo) (s : State) : (s.strapFailed k).PocketOnly s :=
  (faultPocket_pocketOnly k _).trans ((raise_pocketOnly _ _).trans (issueRecord_pocketOnly k _ s))

/-- R83: a matching report with result OK, at the end of its event. -/
theorem strapOk_settles (ho : s.OrdersInPlace) (hs : (s.pocket k).state = .strapping) :
    ((s.strapOk k).settle.pocket k).held = 0 ∧ ((s.strapOk k).settle.pocket k).strapTimer = none
      ∧ (s.strapOk k).settle.Recorded k ((s.pocket k).bundleRecord .strapped)
      ∧ ((s.pocket k).emptyEye = true → ((s.strapOk k).settle.pocket k).state = .fault)
      ∧ ∀ cls pure size, (s.pocket k).emptyEye = false → (s.pocket k).changeover = false →
          (s.pocket k).assignment = some { cls := cls, kind := .strapped size, pure := pure } →
          (s.pocket k).committed < size →
          ((s.strapOk k).settle.pocket k).state = .open ∧ ((s.strapOk k).settle.pocket k).limit = size := by
  have order : (s.pocket k).strapOrder = none := ho.strapOrder (by simp [hs])
  have pocket := strapped_pocket_same k s
  rw [strapOk_eq]
  cases eye : (s.pocket k).emptyEye with
  | true =>
    rw [if_pos rfl]
    obtain ⟨record, state, held, timer⟩ := settle_recorded_fault (s := s.strapped k) (k := k)
      (r := (s.pocket k).bundleRecord .strapped) (by rw [pocket]; exact hs) (by rw [pocket]; rfl) (by rw [pocket]; rfl)
    exact ⟨held, timer, record, fun _ => state, fun _ _ _ h => absurd h (by decide)⟩
  | false =>
    rw [if_neg Bool.false_ne_true]
    have started : ((s.strapped k).startBundle k).pocket k = ((s.strapped k).pocket k).restart s.tbs.active k := by
      rw [startBundle_pocket_same, strapped_tbs]
    have before : ((s.strapped k).pocket k).Emptied := by
      rw [pocket]
      exact ⟨rfl, order, rfl, by simp [Pocket.issue, hs]⟩
    have emptied : (((s.strapped k).startBundle k).pocket k).Emptied := by
      rw [started]
      exact before.restart _ _
    have record : (((s.strapped k).startBundle k).pocket k).record = some ((s.pocket k).bundleRecord .strapped) := by
      rw [startBundle_record, pocket]
      rfl
    obtain ⟨held, -, timer, -⟩ := settle_emptied emptied
    refine ⟨held, timer, settle_recorded record, fun h => absurd h (by decide), fun cls pure size _ hm hk room => ?_⟩
    have unmarked : ((s.strapped k).pocket k).changeover = false := by
      rw [pocket]
      exact hm
    have limit : Pocket.limitFor { (s.strapped k).pocket k with state := .open } = size := by
      rw [pocket, Pocket.limitFor]
      dsimp only [Pocket.issue]
      rw [hk]
    have reopened : ((s.strapped k).startBundle k).pocket k
        = { (s.strapped k).pocket k with limit := size, state := .open } := by
      rw [started, Pocket.restart, unmarked, if_neg Bool.false_ne_true]
      refine Pocket.reopen_of_room limit ?_
      rw [pocket]
      exact room
    have atRest : (((s.strapped k).startBundle k).pocket k).AtRest := by
      refine .of_state emptied.2.1 ?_ ?_ <;> simp [reopened]
    have settled := settle_atRest atRest
    rw [reopened] at settled
    exact ⟨(congrArg Pocket.state settled).trans rfl, (congrArg Pocket.limit settled).trans rfl⟩

/-- R83: a matching report with another result, at the end of its event. -/
theorem strapFailed_settles (hs : (s.pocket k).state = .strapping) :
    ((s.strapFailed k).settle.pocket k).held = 0 ∧ ((s.strapFailed k).settle.pocket k).strapTimer = none
      ∧ (s.strapFailed k).settle.Recorded k ((s.pocket k).bundleRecord .strapFailed)
      ∧ ((s.strapFailed k).settle.pocket k).state = .fault
      ∧ (s.strapFailed k).settle.pendingHas .strapFailed = true := by
  have pocket : ((s.issueRecord k .strapFailed).raise .strapFailed).pocket k
      = (s.pocket k).issue .strapFailed s.pkm.nextBundle := by rw [pocket_raise, issueRecord_pocket_same]
  obtain ⟨record, state, held, timer⟩ := settle_recorded_fault (k := k)
    (s := (s.issueRecord k .strapFailed).raise .strapFailed) (r := (s.pocket k).bundleRecord .strapFailed)
    (by rw [pocket]; exact hs) (by rw [pocket]; rfl) (by rw [pocket]; rfl)
  have agrees : (s.strapFailed k).settle.AgreesWith (s.strapFailed k) := settle_steady _
  have raised : (s.strapFailed k).pendingHas .strapFailed = true := faultPocket_pendingHas (pendingHas_raise_self _ _) k
  exact ⟨held, timer, record, state, (agrees.pendingHas .strapFailed (by decide)).trans raised⟩

end State
end Sys2Proof.Machine

section
open Sys2Proof Sys2Proof.Machine

/-- Settles O30: an expiry and a matching report issue the bundle's record and bring the pocket to FAULT or to its next bundle,
which the end of the event leaves; any other report is counted late. -/
theorem strapEnds : Obligations.StrapEnds := by
  refine ⟨fun s k => ⟨fun hs ht => ?_, fun hs => ?_⟩, fun s own src corr pk b3 b2 b1 b0 result k matching heard ho hk hm => ?_,
    fun s own src corr pk b3 b2 b1 b0 result heard hk => ?_⟩
  · have expired : exec (.strapTimerExpiry k) s = .next (s.strapTimeout k).settle :=
      congrArg Host.Outcome.next (if_pos ⟨hs, ht⟩)
    have pocket := State.issueRecord_pocket_same k .strapTimeout s
    obtain ⟨record, state, held, timer⟩ := State.settle_recorded_fault (k := k) (s := s.issueRecord k .strapTimeout)
      (r := (s.pocket k).bundleRecord .strapTimeout) (by rw [pocket]; exact hs) (by rw [pocket]; rfl) (by rw [pocket]; rfl)
    have agrees : (s.strapTimeout k).settle.AgreesWith (s.strapTimeout k) := settle_steady _
    have raised : (s.strapTimeout k).pendingHas .pocketFault = true :=
      State.faultPocket_raised (by rw [pocket]; simp [Pocket.issue, hs])
    exact ⟨_, expired, record, state, held, timer, (agrees.pendingHas .pocketFault (by decide)).trans raised,
      (State.settle_pocketOnly _).trans (State.strapTimeout_pocketOnly k s)⟩
  · exact congrArg Host.Outcome.next (if_neg fun h => hs h.1)
  · have found := State.strapMatch_of_number (src := src) (result := result) (b3 := b3) (b2 := b2) (b1 := b1) (b0 := b0) hk s
    by_cases matched : matching
    · rw [if_pos (hm.mp matched)] at found
      have strapping := (hm.mp matched).2.1
      have handled : s.sortOwn src 0x02 corr [pk, b3, b2, b1, b0, result]
          = if result = 0 then s.strapOk k else s.strapFailed k := by
        rw [State.sortOwn_strap heard rfl, State.handStrap, found]
        rfl
      have received := State.receive_own heard 0x02 corr
      rw [handled] at received
      refine ⟨_, received, fun h => absurd matched h, fun _ => ?_⟩
      by_cases ok : result = 0
      · rw [if_pos ok]
        obtain ⟨rest, line, counters⟩ := (State.settle_pocketOnly _).trans (State.strapOk_pocketOnly k s)
        obtain ⟨held, timer, record, faulted, reopened⟩ := State.strapOk_settles ho strapping
        exact ⟨rest, line, counters, held, timer, fun _ => ⟨record, faulted, reopened⟩, fun h => absurd ok h⟩
      · rw [if_neg ok]
        obtain ⟨rest, line, counters⟩ := (State.settle_pocketOnly _).trans (State.strapFailed_pocketOnly k s)
        obtain ⟨held, timer, failed⟩ := State.strapFailed_settles strapping
        exact ⟨rest, line, counters, held, timer, fun h => absurd h ok, fun _ => failed⟩
    · rw [if_neg fun h => matched (hm.mpr h)] at found
      obtain ⟨t, received, agrees⟩ := State.receive_late (corr := corr) heard found
      exact ⟨t, received, fun _ => agrees, fun h => absurd h matched⟩
  · refine State.receive_late heard ?_
    have pocket : pocketOfNumber (count8At [pk, b3, b2, b1, b0, result] 0) = none := pocketOfNumber_of_bad hk
    rw [State.strapMatch, pocket]

end

/-! SUPPORT. Refused commands, commands on a numbered pocket, and the statement about the status queries. -/

namespace Sys2Proof.Machine

/- One theorem at a time: many at once exhaust the threads. -/
set_option Elab.async false

variable {s u : State} {k : PocketNo} {row : Instr} {q : QueuedCommand} {rest : List QueuedCommand} {a : Answer} {act : Act}
  {on : PocketNo → State → State × Answer}

/-! ## Taken commands that leave a quiet state -/

/-- R174: an addressed command that turns `s` into the quiet state `u` is concluded by its reply. -/
theorem take_concluded (hd : s.Due row q rest) (hb : q.broadcast = false) (ha : act q (s.taken rest) = (u.taken rest, a))
    (hu : u.Quiet) : s.takeCommand row act = u.concluded q rest a :=
  (take_of_quiet hd ha hu).trans (if_neg (by simp [hb]))

/-- R173: a refused command, and one that only reports, changes nothing besides its queue. -/
theorem take_unchanged (hs : s.Quiet) (hd : s.Due row q rest) (hb : q.broadcast = false)
    (ha : act q (s.taken rest) = (s.taken rest, a)) : s.takeCommand row act = s.concluded q rest a :=
  take_concluded hd hb ha hs

theorem onPocket_of_number (hk : (byteAt q.payload 1).toNat = k.val + 1) (s : State) : onPocket on q s = on k s := by
  have pocket : pocketOfNumber (count8At q.payload 1) = some k := pocketOfNumber_of_eq hk
  rw [onPocket, pocket]

theorem onPocket_of_bad (h : byteAt q.payload 1 = 0 ∨ 16 < (byteAt q.payload 1).toNat) (s : State) :
    onPocket on q s = (s, refusal .badIndex 0) := by
  have none : pocketOfNumber (count8At q.payload 1) = none :=
    pocketOfNumber_of_bad (h.imp_left fun e => by rw [count8At, e]; rfl)
  rw [onPocket, none]
  rfl

/-- POCKET_CONTROL with a number outside 1 to 16. -/
theorem take_badIndex (hs : s.Quiet) (hd : s.Due row q rest) (hb : q.broadcast = false)
    (h : byteAt q.payload 1 = 0 ∨ 16 < (byteAt q.payload 1).toNat) :
    s.takeCommand row (onPocket on) = s.concluded q rest (refusal .badIndex 0) :=
  take_unchanged hs hd hb (onPocket_of_bad h _)

namespace State

theorem clearDeltas_quiet (h : s.Quiet) (k : PocketNo) : (s.clearDeltas k).Quiet := by
  refine h.storePocket ?_ rfl rfl rfl
  have quiet := h.1 k
  unfold PocketQuiet at quiet ⊢
  rw [pocket_storePocket_same]
  exact quiet

end State
end Sys2Proof.Machine

section
open Sys2Proof Sys2Proof.Machine

/-- Settles O55: a report changes nothing; the POCKET page is a command on the pocket it names, and clears two deltas that nothing
at the end of an event reads. -/
theorem statusQueries : Obligations.StatusQueries := by
  intro s q rest hs hb
  refine ⟨fun hd => ?_, fun hd => ?_, fun hd => ?_, fun hd => ?_, fun hd => ?_, fun hd => ⟨fun bad => ?_, fun k hk => ?_⟩⟩
  · exact congrArg Host.Outcome.next (take_unchanged hs hd hb rfl)
  · exact congrArg Host.Outcome.next (take_unchanged hs hd hb rfl)
  · exact congrArg Host.Outcome.next (take_unchanged hs hd hb rfl)
  · exact congrArg Host.Outcome.next (take_unchanged hs hd hb rfl)
  · exact congrArg Host.Outcome.next (take_unchanged hs hd hb rfl)
  · exact congrArg Host.Outcome.next (take_badIndex (on := actPocketPage) hs hd hb bad)
  · exact congrArg Host.Outcome.next (take_concluded (act := onPocket actPocketPage) hd hb (onPocket_of_number hk _)
      (State.clearDeltas_quiet hs k))

end

/-! SUPPORT. The end of an answered command's event, whose reply is what the arbiter takes: what it leaves of the pockets, the
deposits and the blocked classes. -/

namespace Sys2Proof.Machine

/- One theorem at a time: many at once exhaust the threads. -/
set_option Elab.async false

variable {s t u : State} {j k : PocketNo} {p q : Pocket} {b : Bank}

/-! ## A pocket at the end of such an event -/

namespace Pocket

/-- Neither an order nor a removal falls due at the pocket. -/
def Still (p : Pocket) : Prop :=
  p.state ≠ .complete ∧ (p.state = .awaitingRemoval → p.emptyEye = true ∨ p.record ≠ none)

theorem Still.of_state (hc : p.state ≠ .complete) (ha : p.state ≠ .awaitingRemoval) : p.Still :=
  ⟨hc, fun h => absurd h ha⟩

theorem Still.chain (h : p.Still) (steps : Relation.ReflTransGen (HeldStep b k) p q) : q = p := by
  induction steps with
  | refl => rfl
  | tail _ e ih =>
    subst ih
    cases e with
    | order hs => exact absurd hs h.1
    | removed next hs he hr =>
      rcases h.2 hs with eye | record
      · exact absurd (eye.symm.trans he) (by decide)
      · exact absurd hr record

/-- A COMPLETE pocket gets its order and no more. -/
theorem complete_chain (h : p.state = .complete) (steps : Relation.ReflTransGen (HeldStep b k) p q) :
    q = { p with strapOrder := q.strapOrder } := by
  induction steps with
  | refl => rfl
  | @tail x y _ e ih =>
    have state : x.state = .complete := by rw [ih]; exact h
    cases e with
    | order hs => rw [ih]
    | removed next hs he hr => exact absurd (state.symm.trans hs) (by decide)

theorem Emptied.chain (h : p.Emptied) (steps : Relation.ReflTransGen (HeldStep b k) p q) : q.Emptied := by
  induction steps with
  | refl => exact h
  | tail _ e ih => exact e.emptied ih

/-- A record in its slot holds a removal back, and stays. -/
theorem record_chain (h : p.record ≠ none) (steps : Relation.ReflTransGen (HeldStep b k) p q) : q.record = p.record := by
  induction steps with
  | refl => rfl
  | tail _ e ih =>
    cases e with
    | order hs => exact ih
    | removed next hs he hr => exact absurd (ih.symm.trans hr) h

end Pocket

/-! ## The classes that list a pocket (R71) -/

theorem mem_allClasses (c : ClassNo) : c ∈ allClasses := by
  revert c
  decide

namespace Bank

/-- One step of the collection of the classes that list pocket `k`. -/
def addIfLists (b : Bank) (k : PocketNo) (w : BitVec 24) (c : ClassNo) : BitVec 24 :=
  if b.lists c k then setAdd w c.val else w

theorem classMask_eq (b : Bank) (k : PocketNo) : b.classMask k = allClasses.foldl (b.addIfLists k) 0 := rfl

theorem addIfLists_keeps {w : BitVec 24} {c : Nat} (has : setHas w c = true) (d : ClassNo) :
    setHas (b.addIfLists k w d) c = true := by
  unfold addIfLists
  split
  · exact setHas_setAdd _ _ has
  · exact has

theorem addIfLists_has {c : ClassNo} (h : k ∈ b.classes[c].pockets) (w : BitVec 24) :
    setHas (b.addIfLists k w c) c.val = true := by
  have lists : b.lists c k = true := decide_eq_true h
  rw [addIfLists, if_pos lists]
  simp [setHas, setAdd]

theorem foldl_addIfLists_has {c : ClassNo} (l : List ClassNo) (w : BitVec 24)
    (h : setHas w c.val = true ∨ (c ∈ l ∧ k ∈ b.classes[c].pockets)) : setHas (l.foldl (b.addIfLists k) w) c.val = true := by
  induction l generalizing w with
  | nil => exact h.resolve_right (by simp)
  | cons d l ih =>
    refine ih _ ?_
    rcases h with has | ⟨mem, lists⟩
    · exact .inl (addIfLists_keeps has d)
    · rcases List.mem_cons.mp mem with rfl | tail
      · exact .inl (addIfLists_has lists w)
      · exact .inr ⟨tail, lists⟩

/-- R77: a class that the bank lists a pocket for is in the pocket's mask. -/
theorem classMask_has {c : ClassNo} (h : k ∈ b.classes[c].pockets) : setHas (b.classMask k) c.val = true := by
  rw [classMask_eq]
  exact foldl_addIfLists_has allClasses 0 (.inr ⟨mem_allClasses c, h⟩)

end Bank

namespace State

/-! ## Blocked classes (R77) -/

/-- No class is blocked in `t` that was not in `s`. -/
def Unblocks (s t : State) : Prop := ∀ c, setHas s.pkm.blocked c = false → setHas t.pkm.blocked c = false

theorem Unblocks.refl (s : State) : Unblocks s s := fun _ h => h

theorem Unblocks.trans {s t u : State} (h : Unblocks s t) (g : Unblocks t u) : Unblocks s u := fun c e => g c (h c e)

theorem Unblocks.of_blocked (h : t.pkm.blocked = s.pkm.blocked) : Unblocks s t := fun c e => by rwa [h]

theorem Unblocks.foldl {α : Type} {f : State → α → State} (h : ∀ s a, Unblocks s (f s a)) (l : List α) (s : State) :
    Unblocks s (l.foldl f s) := by
  induction l generalizing s with
  | nil => exact .refl s
  | cons a l ih => exact (h s a).trans (ih (f s a))

@[simp] theorem setBlocked_blocked (w : BitVec 24) (s : State) : (s.setBlocked w).pkm.blocked = w := by
  simp [setBlocked]

theorem setBlocked_unblocks (m : BitVec 24) (s t : State) : Unblocks s (t.setBlocked (s.pkm.blocked &&& m)) := fun c h => by
  rw [setBlocked_blocked]
  simp only [setHas, BitVec.getLsbD_and] at h ⊢
  rw [h, Bool.false_and]

theorem putPocket_unblocks (k : PocketNo) (p : Pocket) (s : State) : Unblocks s (s.putPocket k p) := by
  unfold putPocket
  split
  · exact setBlocked_unblocks _ s _
  · exact .of_blocked rfl

theorem reenterPocket_unblocks (k : PocketNo) (p : Pocket) (s : State) : Unblocks s (s.reenterPocket k p) := by
  unfold reenterPocket
  split
  · exact setBlocked_unblocks _ s _
  · exact .of_blocked rfl

theorem fillOrder_unblocks (k : PocketNo) (s : State) : Unblocks s (s.fillOrder k) := by
  unfold fillOrder
  dsimp only
  split
  · exact putPocket_unblocks _ _ s
  · exact .refl s

theorem issueRecord_unblocks (k : PocketNo) (st : BundleStatus) (s : State) : Unblocks s (s.issueRecord k st) := by
  have next (n : Nat) : Unblocks s { s with pkm := { s.pkm with nextBundle := n } } := .of_blocked rfl
  exact (next _).trans (putPocket_unblocks k _ _)

theorem startBundle_unblocks (k : PocketNo) (s : State) : Unblocks s (s.startBundle k) := reenterPocket_unblocks k _ s

theorem issueRemoved_unblocks (k : PocketNo) (s : State) : Unblocks s (s.issueRemoved k) := by
  unfold issueRemoved
  dsimp only
  split
  · exact (issueRecord_unblocks k .removed s).trans (startBundle_unblocks k _)
  · exact .refl s

theorem heldBack_unblocks (s : State) : Unblocks s s.heldBack :=
  .foldl (fun s j => (fillOrder_unblocks j s).trans (issueRemoved_unblocks j _)) allPockets s

/-- R77: a pocket that stands OPEN after it was stored again has freed its classes. -/
theorem reenterPocket_frees {c : ClassNo} (hp : p.state = .open) (hc : k ∈ s.tbs.active.classes[c].pockets) :
    setHas (s.reenterPocket k p).pkm.blocked c.val = false := by
  have listed : (s.tbs.active.classMask k).getLsbD c.val = true := Bank.classMask_has hc
  rw [reenterPocket, if_pos hp, setBlocked_blocked]
  simp [setHas, listed]

/-! ## The end of an answered command's event -/

/-- What the end of an answered command's event leaves of the state `u` of the command: the arbiter takes a reply or nothing, so
only R81 and R85 change a pocket, and no deposit record leaves. -/
structure SettledFrom (u t : State) : Prop where
  agrees : t.AgreesWith u
  steps (k : PocketNo) : Relation.ReflTransGen (Pocket.HeldStep u.tbs.active k) (u.pocket k) (t.pocket k)
  deposits : t.dpu = u.dpu
  unblocks : Unblocks u t

theorem SettledFrom.pocket_of_still (h : SettledFrom u t) (still : (u.pocket k).Still) : t.pocket k = u.pocket k :=
  still.chain (h.steps k)

theorem SettledFrom.pocket_of_complete (h : SettledFrom u t) (hs : (u.pocket k).state = .complete) :
    t.pocket k = { u.pocket k with strapOrder := (t.pocket k).strapOrder } :=
  Pocket.complete_chain hs (h.steps k)

theorem arbitrate_of_replies (h : s.cmp.replies ≠ []) :
    s.arbitrate = s ∨ ∃ r, s.arbitrate = s.placeReply r := by
  obtain ⟨r, rs, replies⟩ := List.exists_cons_of_ne_nil h
  unfold arbitrate
  split
  · exact .inl rfl
  · exact .inr ⟨r, by rw [choose, replies]; rfl⟩

theorem arbitrate_keeps (h : s.cmp.replies ≠ []) :
    s.arbitrate.pkm = s.pkm ∧ s.arbitrate.dpu = s.dpu ∧ s.arbitrate.tbs = s.tbs := by
  rcases arbitrate_of_replies h with same | ⟨r, placed⟩
  · rw [same]
    exact ⟨rfl, rfl, rfl⟩
  · rw [placed]
    exact ⟨rfl, rfl, rfl⟩

/-- The state in which the arbiter chooses, at the end of an event (log entry 19). -/
def awaiting (s : State) : State := s.heldBack.nearFullTest.feedIdleTest

theorem settle_awaiting (s : State) : s.settle = s.awaiting.arbitrate.heldBack.nearFullTest.backlogTest := rfl

theorem awaiting_keeps (s : State) : s.awaiting.pkm = s.heldBack.pkm ∧ s.awaiting.dpu = s.dpu ∧ s.awaiting.tbs = s.tbs
    ∧ s.awaiting.lnk = s.lnk ∧ s.awaiting.cmp = s.cmp := by simp [awaiting]

theorem settledFrom_settle (h : s.cmp.replies ≠ []) : SettledFrom s s.settle := by
  obtain ⟨pkm, dpu, tbs, -, cmp⟩ := awaiting_keeps s
  obtain ⟨pkm', dpu', tbs'⟩ := arbitrate_keeps (s := s.awaiting) (by rw [cmp]; exact h)
  have pockets : s.awaiting.arbitrate.pkm = s.heldBack.pkm := pkm'.trans pkm
  have settled : s.settle.pkm = s.awaiting.arbitrate.heldBack.pkm := by simp [settle_awaiting]
  refine ⟨settle_steady s, fun k => ?_, ?_, ?_⟩
  · have rest := heldBack_steps k s.awaiting.arbitrate
    rw [tbs', tbs, pocket_of_pkm pockets k] at rest
    rw [pocket_of_pkm settled k]
    exact (heldBack_steps k s).trans rest
  · simp [settle_awaiting, dpu', dpu]
  · have first : Unblocks s s.awaiting.arbitrate := (heldBack_unblocks s).trans (.of_blocked (by rw [pockets]))
    exact (first.trans (heldBack_unblocks _)).trans (.of_blocked (by rw [settled]))

theorem backlogTest_cmp (s : State) : s.backlogTest.cmp = s.cmp := by
  unfold backlogTest
  split
  · rfl
  · split <;> rfl

theorem settle_slot_and_replies (s : State) : s.settle.lnk.slot = s.awaiting.arbitrate.lnk.slot
    ∧ s.settle.cmp.replies = s.awaiting.arbitrate.cmp.replies := by
  simp [settle_awaiting, backlogTest_cmp]

/-- R169: an occupied transmit slot keeps its frame and the replies wait. -/
theorem settle_replies_of_slot (h : s.lnk.slot ≠ none) :
    s.settle.lnk.slot = s.lnk.slot ∧ s.settle.cmp.replies = s.cmp.replies := by
  obtain ⟨-, -, -, lnk, cmp⟩ := awaiting_keeps s
  have rests : s.awaiting.arbitrate = s.awaiting := if_pos (by rw [lnk]; exact Option.isSome_iff_ne_none.mpr h)
  obtain ⟨slot, replies⟩ := settle_slot_and_replies s
  rw [slot, replies, rests, lnk, cmp]
  exact ⟨rfl, rfl⟩

/-- R169: into an empty transmit slot the oldest reply is placed. -/
theorem settle_replies_of_empty {r : Reply} {rs : List Reply} (h : s.lnk.slot = none) (hr : s.cmp.replies = r :: rs) :
    s.settle.lnk.slot = some (s.replyFrame r) ∧ s.settle.cmp.replies = rs := by
  obtain ⟨-, -, -, lnk, cmp⟩ := awaiting_keeps s
  have head : s.awaiting.cmp.replies.head? = some r := by rw [cmp, hr]; rfl
  have placed : s.awaiting.arbitrate = s.awaiting.placeReply r := by
    rw [arbitrate, if_neg (by simp [lnk, h]), choose, head]
  obtain ⟨slot, replies⟩ := settle_slot_and_replies s
  rw [slot, replies, placed]
  simp [placeReply, emit, replyFrame, ownStation, lnk, cmp, hr]

end State

/-! ## The take of an addressed command -/

variable {row : Instr} {act : Act} {cmd : QueuedCommand} {rest : List QueuedCommand} {a : Answer}

/-- R169, R174: the take of an addressed command that turns the state into `u` and answers `a`. -/
theorem take_answers (hd : s.Due row cmd rest) (hb : cmd.broadcast = false) (ha : act cmd (s.taken rest) = (u, a))
    (hc : u.cmp = (s.taken rest).cmp) (hl : u.lnk = s.lnk) :
    ∃ t, s.takeCommand row act = t ∧ s.Replied cmd a t ∧ State.SettledFrom u t := by
  obtain ⟨commands, hrow, may⟩ := hd
  have taken : s.takeCommand row act = (u.answer cmd a).settle := by
    have ha' : act cmd { s with cmp := { s.cmp with commands := rest } } = (u, a) := ha
    unfold State.takeCommand
    rw [commands]
    dsimp only
    rw [if_pos ⟨hrow, may⟩, ha']
  have answered : u.answer cmd a = { u with cmp := { u.cmp with replies := s.cmp.replies ++ [replyTo cmd a] } } := by
    have replies : u.cmp.replies = s.cmp.replies := by rw [hc]; rfl
    rw [State.answer, if_neg (by simp [hb]), replies]
    rfl
  obtain ⟨r, rs, list⟩ := List.exists_cons_of_ne_nil (List.append_ne_nil_of_right_ne_nil s.cmp.replies
    (List.cons_ne_nil (replyTo cmd a) []))
  rw [list] at answered
  refine ⟨_, taken, ?_, ?_⟩
  · unfold State.Replied
    rw [answered, list]
    split
    · next empty =>
      obtain ⟨slot, replies⟩ := State.settle_replies_of_empty
        (s := { u with cmp := { u.cmp with replies := r :: rs } }) (by rw [← empty, ← hl]) rfl
      rw [slot, replies]
      refine ⟨?_, rfl⟩
      simp [State.replyFrame, State.ownStation, hl]
    · next full =>
      obtain ⟨slot, replies⟩ := State.settle_replies_of_slot
        (s := { u with cmp := { u.cmp with replies := r :: rs } }) (by rw [← hl] at full; exact full)
      rw [slot, replies]
      exact ⟨by rw [← hl], rfl⟩
  · rw [answered]
    obtain ⟨agrees, steps, deposits, unblocks⟩ := State.settledFrom_settle
      (s := { u with cmp := { u.cmp with replies := r :: rs } }) (by simp)
    exact ⟨agrees, steps, deposits, unblocks⟩

end Sys2Proof.Machine

/-! SUPPORT. What POCKET_CONTROL makes of a pocket record, and the statements about its commands. -/

namespace Sys2Proof.Machine

/- One theorem at a time: many at once exhaust the threads. -/
set_option Elab.async false

variable {s t u : State} {k : PocketNo} {p q : Pocket} {b : Bank} {row : Instr} {cmd : QueuedCommand}
  {rest : List QueuedCommand}

/-! ## Pocket records -/

namespace Pocket

theorem steady_of_contents (h : q.contents = p.contents) : q.steady = p.steady :=
  show q.contents.steady = p.contents.steady by rw [h]

/-- R88: a pocket with notes still committed waits for them in CLOSING. -/
theorem close_of_committed (hc : 0 < p.committed) : p.close b k = { p with state := .closing } :=
  if_neg fun h => absurd h.2 hc.ne'

/-- R88: a pocket with notes held and none committed ends its bundle. -/
theorem close_of_held (hc : p.committed = 0) (hh : 0 < p.held) : p.close b k = { p with
    short := p.short || decide (p.held < p.limit), state := if p.isLoose then .awaitingRemoval else .complete } := by
  unfold close closingTest
  rw [if_pos ⟨rfl, hc⟩, if_pos hh]
  cases loose : p.isLoose with
  | true => exact if_pos loose
  | false => exact if_neg (by rw [show isLoose { p with state := .closing } = p.isLoose from rfl, loose]; simp)

/-- R88: a pocket with no notes starts anew. -/
theorem close_of_empty (hc : p.committed = 0) (hh : p.held = 0) : p.close b k
    = if p.changeover then takeAssignment b k { p with state := .closing } else p.enterOpen := by
  unfold close closingTest
  rw [if_pos ⟨rfl, hc⟩, if_neg (show ¬ 0 < p.held by omega)]
  rfl

/-- R72: a pocket with room enters OPEN. -/
theorem enterOpen_of_room (hl : p.committed + p.held < p.limit) : p.enterOpen = { p with state := .open } :=
  limitTest_of_open rfl hl

theorem limitTest_eq (p : Pocket) :
    p.limitTest = if p.levelled.isLoose then p.levelled.completionTest else p.levelled := rfl

/-- R72: a pocket at its limit that may not complete at once stands FULL. -/
theorem enterOpen_of_full (hl : p.committed + p.held = p.limit) (h : 0 < p.committed ∨ p.isLoose = false) :
    p.enterOpen = { p with state := .full } := by
  have level : levelled { p with state := .open } = { p with state := .full } := levelled_of_full (.inl rfl) hl
  rw [enterOpen, limitTest_eq, level]
  split
  · next loose =>
    have loose' : p.isLoose = true := loose
    have committed : 0 < p.committed := h.resolve_right (by simp [loose'])
    exact if_neg fun x => absurd x.2.1 committed.ne'
  · rfl

/-- R92: RELEASE of a pocket that neither changes over nor has lost its notes. -/
theorem release_of_entry (hc : p.changeover = false)
    (h : p.isStrapped = true ∨ p.emptyEye = true ∨ 0 < p.committed ∨ p.held = 0) :
    p.release b k = p.enterOpen.completionTest := by
  have stays : ¬ (p.isLoose = true ∧ 0 < p.held ∧ p.committed = 0 ∧ p.emptyEye = false) := by
    rintro ⟨loose, held, committed, eye⟩
    rcases h with strapped | active | pending | none
    · simp [isLoose_of_isStrapped strapped] at loose
    · simp [active] at eye
    · omega
    · omega
  unfold release
  rw [if_neg (by simp [hc]), if_neg stays]

theorem release_of_room (hc : p.changeover = false) (hl : p.committed + p.held < p.limit)
    (h : p.isStrapped = true ∨ p.emptyEye = true ∨ 0 < p.committed) : p.release b k = { p with state := .open } := by
  rw [release_of_entry hc (by tauto), enterOpen_of_room hl]
  exact if_neg (by simp)

theorem release_of_full (hc : p.changeover = false) (hl : p.committed + p.held = p.limit) (h : 0 < p.committed) :
    p.release b k = { p with state := .full } := by
  rw [release_of_entry hc (.inr (.inr (.inl h))), enterOpen_of_full hl (.inl h)]
  exact if_neg fun test => absurd test.2.1 h.ne'

/-- R78, R92: RELEASE of a strapped pocket whose bundle has all its notes. -/
theorem release_of_complete (hc : p.changeover = false) (h0 : p.committed = 0) (hl : p.held = p.limit)
    (h : p.isStrapped = true) : p.release b k = { p with state := .complete } := by
  have loose : p.isLoose = false := isLoose_of_isStrapped h
  rw [release_of_entry hc (.inl h), enterOpen_of_full (by omega) (.inr loose)]
  unfold completionTest
  rw [if_pos ⟨rfl, h0, hl⟩]
  simp [show isLoose { p with state := .full } = p.isLoose from rfl, loose,
    show isStrapped { p with state := .full } = p.isStrapped from rfl, h]

theorem contents_release (b : Bank) (k : PocketNo) (p : Pocket) : (p.release b k).contents = p.contents := by
  unfold release
  split
  · exact contents_close b k p
  · split
    · rfl
    · rw [contents_completionTest, contents_enterOpen]

theorem accepting_iff : p.accepting = true ↔ p.state = .open ∨ p.state = .full := decide_eq_true_iff

end Pocket

/-! ## INHIBIT, RELEASE and CLOSE_SHORT (R90, R92) -/

namespace State

/-- INHIBIT leaves nothing to be done: the state INHIBITED waits for nothing, and has the same room as OPEN and FULL. -/
theorem Quiet.inhibit (h : s.Quiet) (hs : (s.pocket k).state = .open ∨ (s.pocket k).state = .full) :
    (s.storePocket k { s.pocket k with state := .inhibited }).Quiet := by
  refine h.storePocket ?_ ?_ rfl rfl
  · unfold PocketQuiet
    rw [pocket_storePocket_same]
    exact ⟨fun x => absurd x.1 (by simp), fun x => absurd x.1 (by simp)⟩
  · rcases hs with state | state <;> simp [Pocket.nearFull, Pocket.freeRoom, state]

end State

theorem actInhibit_eq (hk : k ≠ pocket1) (hs : (s.pocket k).state = .open ∨ (s.pocket k).state = .full) :
    actInhibit k s = (s.storePocket k { s.pocket k with state := .inhibited }, Answer.done) := by
  rw [actInhibit, if_pos ⟨hk, Pocket.accepting_iff.mpr hs⟩, State.putPocket_of_not_opened (fun x => absurd x (by simp))]
  rfl

theorem actCloseShort_eq (hk : k ≠ pocket1) (hs : (s.pocket k).state = .open ∨ (s.pocket k).state = .full) :
    actCloseShort k s = (s.reenterPocket k ((s.pocket k).close s.tbs.active k), Answer.done) :=
  if_pos ⟨hk, Pocket.accepting_iff.mpr hs⟩

theorem actRelease_eq (hs : (s.pocket k).state = .inhibited) :
    actRelease k s = (s.reenterPocket k ((s.pocket k).release s.tbs.active k), Answer.done) := if_pos hs

theorem not_accepting (h : k = pocket1 ∨ ((s.pocket k).state ≠ .open ∧ (s.pocket k).state ≠ .full)) :
    ¬ (k ≠ pocket1 ∧ (s.pocket k).accepting = true) := by
  rw [Pocket.accepting_iff]
  tauto

/-- A command on a pocket that stores a record `p` in place of it, with the same notes, levels and slots. -/
theorem take_reenters {act : PocketNo → State → State × Answer} (hd : s.Due row cmd rest) (hb : cmd.broadcast = false)
    (hk : (byteAt cmd.payload 1).toNat = k.val + 1)
    (ha : act k (s.taken rest) = ((s.taken rest).reenterPocket k p, Answer.done)) (hp : p.contents = (s.pocket k).contents) :
    ∃ t, s.takeCommand row (onPocket act) = t ∧ s.Replied cmd Answer.done t ∧ t.AgreesWith (s.taken rest)
      ∧ (p.Still → t.pocket k = p) ∧ (p.state = .complete → t.pocket k = { p with strapOrder := (t.pocket k).strapOrder })
      ∧ ∀ c : ClassNo, p.state = .open → k ∈ s.tbs.active.classes[c].pockets → setHas t.pkm.blocked c.val = false := by
  obtain ⟨t, taken, replied, settled⟩ := take_answers (act := onPocket act) hd hb
    ((onPocket_of_number hk _).trans ha) (by simp) (by simp [State.taken])
  have stored : ((s.taken rest).reenterPocket k p).pocket k = p := State.reenterPocket_pocket_same k p _
  refine ⟨t, taken, replied, ?_, fun still => ?_, fun complete => ?_, fun c opened listed => ?_⟩
  · exact settled.agrees.trans (steady_reenterPocket (Pocket.steady_of_contents hp))
  · rw [settled.pocket_of_still (by rwa [stored]), stored]
  · have kept := settled.pocket_of_complete (k := k) (by rwa [stored])
    rwa [stored] at kept
  · exact settled.unblocks c (State.reenterPocket_frees opened listed)

end Sys2Proof.Machine

section
open Sys2Proof Sys2Proof.Machine

/-- Settles O51: INHIBIT leaves a quiet state; CLOSE_SHORT and RELEASE store the record that R88 and R92 give, of which the end of
the event changes no more than the strap order. -/
theorem pocketModes : Obligations.PocketModes := by
  intro s q rest row hs hb hd hrow
  have rows : row = .pocketControlInhibit ∨ row = .pocketControlRelease ∨ row = .pocketControlCloseShort := by
    simpa using hrow
  refine ⟨fun bad => ?_, fun k hk => ⟨fun h => ?_, fun e hk1 hst => ?_, fun e hk1 hst => ?_, fun e hst hco => ?_⟩⟩
  · rcases rows with rfl | rfl | rfl
    · exact congrArg Host.Outcome.next (take_badIndex (on := actInhibit) hs hd hb bad)
    · exact congrArg Host.Outcome.next (take_badIndex (on := actRelease) hs hd hb bad)
    · exact congrArg Host.Outcome.next (take_badIndex (on := actCloseShort) hs hd hb bad)
  · rcases rows with rfl | rfl | rfl
    · have refused := not_accepting (h.resolve_right (fun x => nomatch x.1)).2
      exact congrArg Host.Outcome.next (take_unchanged (act := onPocket actInhibit) hs hd hb
        ((onPocket_of_number hk _).trans (if_neg refused)))
    · have refused := (h.resolve_left (fun x => x.1 rfl)).2
      exact congrArg Host.Outcome.next (take_unchanged (act := onPocket actRelease) hs hd hb
        ((onPocket_of_number hk _).trans (if_neg refused)))
    · have refused := not_accepting (h.resolve_right (fun x => nomatch x.1)).2
      exact congrArg Host.Outcome.next (take_unchanged (act := onPocket actCloseShort) hs hd hb
        ((onPocket_of_number hk _).trans (if_neg refused)))
  · subst e
    exact congrArg Host.Outcome.next (take_concluded (act := onPocket actInhibit) hd hb
      ((onPocket_of_number hk _).trans (actInhibit_eq hk1 hst)) (hs.inhibit hst))
  · subst e
    obtain ⟨t, taken, replied, agrees, still, complete, -⟩ := take_reenters (act := actCloseShort)
      (p := (s.pocket k).close s.tbs.active k) hd hb hk
      (actCloseShort_eq hk1 hst) (Pocket.contents_close _ _ _)
    refine ⟨t, ⟨congrArg Host.Outcome.next taken, replied, agrees⟩, fun hc => ?_, fun hc hh hp => ?_, fun hc hh hp he => ?_,
      fun hc hh hco hl => ?_⟩
    · rw [Pocket.close_of_committed hc] at still
      rw [still (.of_state (by simp) (by simp))]
    · rw [Pocket.close_of_held hc hh] at complete
      rw [complete (by simp [Pocket.isLoose_of_isStrapped hp])]
      simp [Pocket.isLoose_of_isStrapped hp]
    · rw [Pocket.close_of_held hc hh] at still
      rw [still ⟨by simp [hp], fun _ => .inl he⟩]
      simp [hp]
    · have room : (s.pocket k).committed + (s.pocket k).held < (s.pocket k).limit := by omega
      rw [Pocket.close_of_empty hc hh, hco, if_neg Bool.false_ne_true, Pocket.enterOpen_of_room room] at still
      rw [still (.of_state (by simp) (by simp))]
  · subst e
    obtain ⟨t, taken, replied, agrees, still, complete, frees⟩ := take_reenters (act := actRelease)
      (p := (s.pocket k).release s.tbs.active k) hd hb hk
      (actRelease_eq hst) (Pocket.contents_release _ _ _)
    refine ⟨t, ⟨congrArg Host.Outcome.next taken, replied, agrees⟩, fun hl hp => ?_, fun hl hc => ?_,
      fun hc hl hh hp => ?_⟩
    · rw [Pocket.release_of_room hco hl hp] at still frees
      rw [still (.of_state (by simp) (by simp))]
      exact ⟨rfl, fun c => frees c rfl⟩
    · rw [Pocket.release_of_full hco hl hc] at still
      rw [still (.of_state (by simp) (by simp))]
    · rw [Pocket.release_of_complete hco hc hl hp] at complete
      rw [complete rfl]

end

/-! SUPPORT. POCKET_CONTROL CLEAR, and the statement about it. -/

namespace Sys2Proof.Machine

/- One theorem at a time: many at once exhaust the threads. -/
set_option Elab.async false

variable {s t u : State} {k : PocketNo} {p : Pocket} {cmd : QueuedCommand} {rest : List QueuedCommand}

namespace State

/-! ## CLEAR of a FAULT pocket (R94) -/

/-- R94: the notes of a FAULT pocket are recorded, and the marker is cleared. -/
def discarded (k : PocketNo) (s : State) : State :=
  let t := if 0 < (s.pocket k).held then s.issueRecord k .discardedFault else s
  t.storePocket k { t.pocket k with unaccounted := false }

theorem clearFault_eq (k : PocketNo) (s : State) : s.clearFault k = (s.discarded k).startBundle k := rfl

theorem discarded_pocketOnly (k : PocketNo) (s : State) : (s.discarded k).PocketOnly s := by
  unfold discarded
  dsimp only
  refine PocketOnly.trans (storePocket_pocketOnly rfl) ?_
  split
  · exact issueRecord_pocketOnly k .discardedFault s
  · exact .refl s

theorem clearFault_pocketOnly (k : PocketNo) (s : State) : (s.clearFault k).PocketOnly s :=
  (startBundle_pocketOnly k _).trans (discarded_pocketOnly k s)

theorem clearFault_queues (k : PocketNo) (s : State) : (s.clearFault k).cmp = s.cmp ∧ (s.clearFault k).lnk = s.lnk := by
  rw [clearFault_eq, discarded]
  split <;> simp

/-- R94: what is left of the pocket once its notes are recorded. -/
theorem discarded_pocket_same (k : PocketNo) (s : State) : (s.discarded k).pocket k
    = { (if 0 < (s.pocket k).held then (s.pocket k).issue .discardedFault s.pkm.nextBundle else s.pocket k) with
        unaccounted := false } := by
  unfold discarded
  dsimp only
  rw [pocket_storePocket_same]
  split
  · rw [issueRecord_pocket_same]
  · rfl

theorem discarded_tbs (k : PocketNo) (s : State) : (s.discarded k).tbs = s.tbs := by
  obtain ⟨-, ⟨-, -, tables, -⟩, -⟩ := discarded_pocketOnly k s
  exact tables

/-- R95: the record of a FAULT pocket's notes; with none held no record is issued. -/
theorem discarded_record (k : PocketNo) (s : State) : ((s.discarded k).pocket k).record
    = if 0 < (s.pocket k).held then some ((s.pocket k).bundleRecord .discardedFault) else (s.pocket k).record := by
  rw [discarded_pocket_same]
  split <;> rfl

/-- R94: a FAULT pocket with nothing committed, cleared: it holds nothing. -/
theorem discarded_empty (hc : (s.pocket k).committed = 0) :
    ((s.discarded k).pocket k).committed = 0 ∧ ((s.discarded k).pocket k).held = 0 := by
  rw [discarded_pocket_same]
  split
  · exact ⟨hc, rfl⟩
  · next none => exact ⟨hc, Nat.eq_zero_of_not_pos none⟩

theorem discarded_keeps (k : PocketNo) (s : State) : ((s.discarded k).pocket k).assignment = (s.pocket k).assignment
    ∧ ((s.discarded k).pocket k).changeover = (s.pocket k).changeover
    ∧ ((s.discarded k).pocket k).stackEye = (s.pocket k).stackEye
    ∧ ((s.discarded k).pocket k).unaccounted = false := by
  rw [discarded_pocket_same]
  split <;> exact ⟨rfl, rfl, rfl, rfl⟩

/-- R85, R94: without a changeover the cleared pocket is OPEN, with its limit set anew. -/
theorem clearFault_opens {cls : Option ClassNo} {kind : PocketKind} {pure : Bool} {limit : Nat}
    (hc : (s.pocket k).committed = 0) (hco : (s.pocket k).changeover = false)
    (hl : limit = (match kind with
      | .strapped size => size
      | .loose capacity allowance => if (s.pocket k).stackEye then min capacity allowance else capacity))
    (ha : (s.pocket k).assignment = some { cls := cls, kind := kind, pure := pure }) (room : 0 < limit) :
    (s.clearFault k).pocket k = { (s.discarded k).pocket k with limit := limit, state := .open } := by
  obtain ⟨assignment, changeover, eye, -⟩ := discarded_keeps k s
  obtain ⟨committed, held⟩ := discarded_empty hc
  have set : Pocket.limitFor { (s.discarded k).pocket k with state := .open } = limit := by
    rw [Pocket.limitFor_of_empty (kind := kind) (by exact assignment.trans ha) (by exact committed) (by exact held)]
    rw [hl]
    cases kind with
    | strapped size => rfl
    | loose capacity allowance => rw [eye]
  rw [clearFault_eq, startBundle_pocket_same, Pocket.restart, changeover, hco, if_neg Bool.false_ne_true]
  exact Pocket.reopen_of_room set (by omega)

/-- R77: a cleared pocket that stands OPEN has freed its classes. -/
theorem clearFault_frees {c : ClassNo} (hs : ((s.clearFault k).pocket k).state = .open)
    (hc : k ∈ s.tbs.active.classes[c].pockets) : setHas (s.clearFault k).pkm.blocked c.val = false := by
  rw [clearFault_eq, startBundle] at hs ⊢
  rw [reenterPocket_pocket_same] at hs
  exact reenterPocket_frees hs (by rw [discarded_tbs]; exact hc)

/-! ## CLEAR of an UNACCOUNTED pocket (R94) -/

theorem clearUnaccounted_pocketOnly (k : PocketNo) (s : State) : (s.clearUnaccounted k).PocketOnly s := by
  unfold clearUnaccounted
  dsimp only
  refine reenterPocket_pocketOnly ?_
  split
  · exact (Pocket.fields_of_contents (Pocket.contents_takeAssignment _ k { s.pocket k with unaccounted := false })).1
  · exact (Pocket.fields_of_contents (Pocket.contents_enterOpen { s.pocket k with unaccounted := false })).1

theorem clearUnaccounted_queues (k : PocketNo) (s : State) :
    (s.clearUnaccounted k).cmp = s.cmp ∧ (s.clearUnaccounted k).lnk = s.lnk := by simp [clearUnaccounted]

theorem clearUnaccounted_opens (hco : (s.pocket k).changeover = false)
    (room : (s.pocket k).committed + (s.pocket k).held < (s.pocket k).limit) :
    (s.clearUnaccounted k).pocket k = { s.pocket k with unaccounted := false, state := .open } := by
  unfold clearUnaccounted
  dsimp only
  rw [reenterPocket_pocket_same, if_neg (by simp [hco])]
  exact Pocket.enterOpen_of_room (p := { s.pocket k with unaccounted := false }) room

end State

/-! ## CLEAR as a command (Table 5-5) -/

theorem actPocketClear_refused (h : (s.pocket k).state ≠ .fault) (h' : (s.pocket k).state ≠ .unaccounted) :
    actPocketClear k s = (s, refusal .state 0) := if_pos ⟨h, h'⟩

theorem actPocketClear_content (h : (s.pocket k).state = .fault ∨ (s.pocket k).state = .unaccounted)
    (he : (s.pocket k).emptyEye = true) : actPocketClear k s = (s, refusal .eyeNotEmpty 0) := by
  unfold actPocketClear
  dsimp only
  rw [if_neg (by tauto), if_pos he]
  rfl

theorem actPocketClear_fault (hs : (s.pocket k).state = .fault) (he : (s.pocket k).emptyEye = false) :
    actPocketClear k s = if 0 < (s.pocket k).committed ∨ (s.pocket k).record ≠ none then (s, refusal .state 0)
      else (s.clearFault k, Answer.done) := by
  unfold actPocketClear
  dsimp only
  rw [if_neg (by simp [hs]), if_neg (by simp [he]), if_pos hs]
  rfl

theorem actPocketClear_unaccounted (hs : (s.pocket k).state = .unaccounted) (he : (s.pocket k).emptyEye = false) :
    actPocketClear k s = (s.clearUnaccounted k, Answer.done) := by
  unfold actPocketClear
  dsimp only
  rw [if_neg (by simp [hs]), if_neg (by simp [he]), if_neg (by simp [hs])]
  rfl

/-- A command on a pocket that touches only that pocket, with what the end of its event leaves. -/
theorem take_pocketOnly {act : PocketNo → State → State × Answer} (hd : s.Due .pocketControlClear cmd rest)
    (hb : cmd.broadcast = false) (hk : (byteAt cmd.payload 1).toNat = k.val + 1)
    (ha : act k (s.taken rest) = (u, Answer.done)) (only : u.PocketOnly (s.taken rest)) (hc : u.cmp = (s.taken rest).cmp)
    (hl : u.lnk = s.lnk) : ∃ t, s.takeCommand .pocketControlClear (onPocket act) = t ∧ s.Replied cmd Answer.done t
      ∧ t.RestKept (s.taken rest) ∧ t.LineKept s ∧ t.evu.counters = s.evu.counters ∧ State.SettledFrom u t := by
  obtain ⟨t, taken, replied, settled⟩ := take_answers (act := onPocket act) hd hb ((onPocket_of_number hk _).trans ha) hc hl
  have kept : t.PocketOnly u :=
    ⟨settled.agrees.restKept, settled.agrees.lineKept, counters_of_steady settled.agrees⟩
  obtain ⟨rests, line, counters⟩ := kept.trans only
  exact ⟨t, taken, replied, rests, line, counters, settled⟩

end Sys2Proof.Machine

section
open Sys2Proof Sys2Proof.Machine

/-- Settles O52: CLEAR touches its pocket alone, which stands OPEN before the end of the event and so after it. -/
theorem pocketClear : Obligations.PocketClear := by
  intro s q rest hs hb hd
  refine ⟨fun bad => congrArg Host.Outcome.next (take_badIndex (on := actPocketClear) hs hd hb bad), fun k hk => ?_⟩
  have refuses {a : Answer} (h : actPocketClear k (s.taken rest) = (s.taken rest, a)) :
      exec .pocketControlClear s = .next (s.concluded q rest a) := congrArg Host.Outcome.next
    (take_unchanged (act := onPocket actPocketClear) hs hd hb ((onPocket_of_number hk _).trans h))
  refine ⟨fun hf hu => ?_, fun hst he => ?_, fun hf he h => ?_, fun hf he hc hr hco cls kind pure limit ha hl room => ?_,
    fun hu he hco room => ?_⟩
  · exact refuses (actPocketClear_refused hf hu)
  · exact refuses (actPocketClear_content hst he)
  · exact refuses ((actPocketClear_fault (s := s.taken rest) hf he).trans (if_pos h))
  · have empty : ((s.taken rest).pocket k).committed = 0 := hc
    have free : ((s.taken rest).pocket k).record = none := hr
    obtain ⟨commands, link⟩ := State.clearFault_queues k (s.taken rest)
    have act := (actPocketClear_fault (s := s.taken rest) (k := k) hf he).trans
      (if_neg (not_or.mpr ⟨by simp [empty], by simp [free]⟩))
    obtain ⟨t, taken, replied, rests, line, counters, settled⟩ := take_pocketOnly hd hb hk act
      (State.clearFault_pocketOnly k _) commands link
    have opens := State.clearFault_opens (s := s.taken rest) (k := k) empty hco hl ha room
    have record := State.discarded_record k (s.taken rest)
    obtain ⟨-, -, -, unaccounted⟩ := State.discarded_keeps k (s.taken rest)
    obtain ⟨-, held⟩ := State.discarded_empty (s := s.taken rest) (k := k) empty
    have pocket := (settled.pocket_of_still (by rw [opens]; exact .of_state (by simp) (by simp))).trans opens
    refine ⟨t, congrArg Host.Outcome.next taken, replied, rests, line, counters, ?_⟩
    rw [pocket]
    refine ⟨rfl, rfl, held, unaccounted, fun c listed => ?_, fun hh => record.trans (if_pos hh), fun hh => ?_⟩
    · exact settled.unblocks c (State.clearFault_frees (by rw [opens]) listed)
    · exact (record.trans (if_neg (Nat.not_lt.mpr (Nat.le_zero.mpr hh)))).trans hr
  · have act := actPocketClear_unaccounted (s := s.taken rest) (k := k) hu he
    obtain ⟨t, taken, replied, rests, line, counters, settled⟩ := take_pocketOnly hd hb hk act
      (State.clearUnaccounted_pocketOnly k _) (State.clearUnaccounted_queues k _).1
      (State.clearUnaccounted_queues k _).2
    have opens := State.clearUnaccounted_opens (s := s.taken rest) (k := k) hco room
    have pocket := (settled.pocket_of_still (by rw [opens]; exact .of_state (by simp) (by simp))).trans opens
    refine ⟨t, congrArg Host.Outcome.next taken, replied, rests, line, counters, ?_⟩
    rw [pocket]
    exact ⟨rfl, rfl, rfl⟩

end

/-! SUPPORT. The swap of the banks and the changeover of the pockets (R91, R132), and the statement about COMMIT_TABLES. -/

namespace Sys2Proof.Machine

/- One theorem at a time: many at once exhaust the threads. -/
set_option Elab.async false

variable {s t u : State} {j k : PocketNo} {p q : Pocket} {b : Bank}

/-! ## A pass over the pockets -/

namespace State

/-- A pass that gives each pocket its turn, where a turn leaves the other pockets and the tables alone: pocket `k` changes in
its own turn, which finds it and the tables as they were. -/
theorem foldl_visits {f : State → PocketNo → State} (other : ∀ s j, k ≠ j → (f s j).pocket k = s.pocket k)
    (tables : ∀ s j, (f s j).tbs = s.tbs) (l : List PocketNo) (distinct : l.Nodup) (s : State) :
    (k ∉ l → (l.foldl f s).pocket k = s.pocket k)
      ∧ (k ∈ l → ∃ v : State, v.pocket k = s.pocket k ∧ v.tbs = s.tbs ∧ (l.foldl f s).pocket k = (f v k).pocket k) := by
  induction l generalizing s with
  | nil => exact ⟨fun _ => rfl, fun h => absurd h (by simp)⟩
  | cons j l ih =>
    obtain ⟨new, rest⟩ := List.nodup_cons.mp distinct
    obtain ⟨past, ahead⟩ := ih rest (f s j)
    refine ⟨fun h => ?_, fun h => ?_⟩
    · obtain ⟨hj, hl⟩ := not_or.mp (List.mem_cons.not.mp h)
      exact (past hl).trans (other s j hj)
    · by_cases hj : k = j
      · subst hj
        exact ⟨s, rfl, rfl, past new⟩
      · obtain ⟨v, pocket, same, visited⟩ := ahead ((List.mem_cons.mp h).resolve_left hj)
        exact ⟨v, pocket.trans (other s j hj), same.trans (tables s j), visited⟩

theorem allPockets_visit {f : State → PocketNo → State} (other : ∀ s j, k ≠ j → (f s j).pocket k = s.pocket k)
    (tables : ∀ s j, (f s j).tbs = s.tbs) (s : State) :
    ∃ v : State, v.pocket k = s.pocket k ∧ v.tbs = s.tbs ∧ (allPockets.foldl f s).pocket k = (f v k).pocket k :=
  (foldl_visits other tables allPockets (by decide) s).2 (mem_allPockets k)

/-! ## The swap (R132) -/

theorem changeBanks_pocket (k : PocketNo) (s : State) :
    s.changeBanks.pocket k = (s.pocket k).changeBank s.tbs.active k := by
  obtain ⟨v, pocket, tables, visited⟩ := allPockets_visit (k := k)
    (f := fun s j => s.putPocket j ((s.pocket j).changeBank s.tbs.active j))
    (fun s j hj => pocket_putPocket_other hj _ s) (fun s j => by simp) s
  rw [changeBanks, visited, putPocket_pocket_same, pocket, tables]

/-- R132 steps 4 and 5: the state before a line in STANDBY becomes READY. -/
def exchanged (s : State) : State :=
  State.raise .bankSwapped (State.setBlocked 0 (State.changeBanks { s with tbs := s.tbs.exchange }))

theorem swap_eq (s : State) : s.swap = s.exchanged.leaveStandby := rfl

theorem swap_pkm (s : State) : s.swap.pkm = (State.setBlocked 0 (State.changeBanks { s with tbs := s.tbs.exchange })).pkm := by
  simp [swap_eq, exchanged]

/-- R91: what a swap leaves of a pocket. -/
theorem swap_pocket (k : PocketNo) (s : State) : s.swap.pocket k = (s.pocket k).changeBank s.tbs.shadow k := by
  rw [pocket_of_pkm (swap_pkm s) k]
  have changed := changeBanks_pocket k { s with tbs := s.tbs.exchange }
  have stays : (State.setBlocked 0 (State.changeBanks { s with tbs := s.tbs.exchange })).pkm.pockets
      = (State.changeBanks { s with tbs := s.tbs.exchange }).pkm.pockets := by simp
  exact (congrArg (fun v : Vector Pocket 16 => v[k]) stays).trans changed

theorem swap_blocked (s : State) : s.swap.pkm.blocked = 0 := by rw [swap_pkm, setBlocked_blocked]

theorem AgreesWith.trans (h : u.AgreesWith t) (g : t.AgreesWith s) : u.AgreesWith s := Eq.trans h g

theorem steady_raise_eq (x : EventKind) (s : State) : (s.raise x).steady = { s.steady with evu := { s.steady.evu with
    pending := s.steady.evu.pending ||| steadyEvents (BitVec.twoPow 16 x.code) } } := by
  have masked : steadyEvents (setAdd s.evu.pending x.code)
      = steadyEvents s.evu.pending ||| steadyEvents (BitVec.twoPow 16 x.code) := by
    ext i
    simp [steadyEvents, setAdd, Bool.and_or_distrib_right]
  simp only [steady, raise, EventUnit.withSets, masked]

theorem AgreesWith.raise (h : t.AgreesWith s) (x : EventKind) : (t.raise x).AgreesWith (s.raise x) := by
  unfold AgreesWith
  rw [steady_raise_eq, steady_raise_eq, h.steady_eq]

theorem AgreesWith.leaveStandby (h : t.AgreesWith s) : t.leaveStandby.AgreesWith s.leaveStandby := by
  have ready (v : State) : State.steady { v with lsv := { v.lsv with line := .ready } }
      = { v.steady with lsv := { v.steady.lsv with line := .ready } } := rfl
  unfold State.leaveStandby
  rw [line_of_steady h]
  split
  · unfold AgreesWith
    rw [ready, ready, h.steady_eq]
  · exact h

theorem AgreesWith.exchange (h : t.AgreesWith s) :
    State.AgreesWith { t with tbs := t.tbs.exchange } { s with tbs := s.tbs.exchange } := by
  have banks (v : State) (x : TableStore) : State.steady { v with tbs := x } = { v.steady with tbs := x } := rfl
  unfold AgreesWith
  rw [banks, banks, h.steady_eq, tbs_of_steady h]
  rfl

theorem changeBanks_agrees (s : State) : s.changeBanks.AgreesWith s :=
  foldl_keeps State.steady (fun _ j => steady_putPocket (Pocket.steady_of_contents (Pocket.contents_changeBank _ j _)))
    allPockets s

theorem swapped_eq (s : State) :
    s.swapped = State.leaveStandby (State.raise .bankSwapped { s with tbs := s.tbs.exchange }) := by
  unfold swapped TableStore.exchange State.leaveStandby
  rw [next16_eq]
  by_cases h : s.lsv.line = .standby
  · simp [h, raise]
  · simp [h, raise]

theorem AgreesWith.swapped (h : t.AgreesWith s) : t.swapped.AgreesWith s.swapped := by
  rw [swapped_eq, swapped_eq]
  exact (h.exchange.raise _).leaveStandby

/-- R132: but for what the end of an event may change, a swap leaves what `State.swapped` says. -/
theorem swap_agrees (s : State) : s.swap.AgreesWith s.swapped := by
  rw [swapped_eq]
  have changed : State.AgreesWith (State.setBlocked 0 (State.changeBanks { s with tbs := s.tbs.exchange }))
      { s with tbs := s.tbs.exchange } :=
    AgreesWith.trans (steady_setBlocked 0 _) (changeBanks_agrees { s with tbs := s.tbs.exchange })
  exact (changed.raise .bankSwapped).leaveStandby

/-- R133: the same for a trigger of a pending swap. -/
theorem swapTrigger_agrees (h : t.AgreesWith s) : t.swapTrigger.AgreesWith s.swappedIfPending := by
  unfold swapTrigger swappedIfPending
  rw [tbs_of_steady h]
  split
  · exact (swap_agrees t).trans h.swapped
  · exact h

/-- Where no class was blocked, none is after the end of an answered command's event. -/
theorem Unblocks.blocked_zero (h : Unblocks s t) (hs : s.pkm.blocked = 0) : t.pkm.blocked = 0 := by
  refine BitVec.eq_of_getLsbD_eq fun i _ => ?_
  exact (h i (by simp [hs, setHas])).trans BitVec.getLsbD_zero.symm

end State

/-! ## Assignments (R71) -/

theorem sort_of_le (hk : 2 ≤ k.val) : ¬ (k = pocket1 ∨ k = pocket2) := by
  rintro (rfl | rfl) <;> exact absurd hk (by decide)

theorem first_of_lt (hk : k.val < 2) : k = pocket1 ∨ k = pocket2 := by
  revert k
  decide

namespace Bank

theorem lists_iff {c : ClassNo} : b.lists c k = true ↔ k ∈ b.classes[c].pockets := decide_eq_true_iff

theorem classOf_of_unlisted (h : ∀ c : ClassNo, k ∉ b.classes[c].pockets) : b.classOf k = none :=
  List.find?_eq_none.mpr fun c _ listed => h c (lists_iff.mp listed)

theorem classOf_of_listed {c : ClassNo} (h : k ∈ b.classes[c].pockets)
    (only : ∀ d : ClassNo, k ∈ b.classes[d].pockets → d = c) : b.classOf k = some c := by
  cases found : b.classOf k with
  | none => exact absurd (lists_iff.mpr h) (List.find?_eq_none.mp found c (mem_allClasses c))
  | some d => rw [only d (lists_iff.mp (List.find?_some (p := fun c => b.lists c k) found))]

theorem assignmentFor_sort (hk : 2 ≤ k.val) : b.assignmentFor k
    = (b.classOf k).map (fun c => { cls := some c, kind := b.kindFor c k, pure := b.classes[c].pure }) :=
  if_neg (sort_of_le hk)

theorem assignmentFor_first (hk : k.val < 2) : b.assignmentFor k
    = some { cls := none, kind := .loose b.loose[k].capacity b.loose[k].allowance, pure := false } :=
  if_pos (first_of_lt hk)

end Bank

/-! ## The changeover of a pocket (R91, Table 5-4) -/

namespace Pocket

theorem takeAssignment_keeps (b : Bank) (k : PocketNo) (p : Pocket) : p.takeAssignment b k
    = { p with
        assignment := b.assignmentFor k, changeover := false
        limit := limitFor { p with assignment := b.assignmentFor k }, state := (p.takeAssignment b k).state } := by
  unfold takeAssignment
  dsimp only
  split
  · rfl
  · split
    · rfl
    · exact limitTest_keeps _

theorem takeAssignment_took (b : Bank) (k : PocketNo) (p : Pocket) : p.Took b k (p.takeAssignment b k) := by
  refine ⟨_, _, takeAssignment_keeps b k p, fun none => ?_, fun a some => ?_⟩
  · rw [takeAssignment, none]
    exact ⟨rfl, rfl⟩
  · rw [takeAssignment, some]
    refine ⟨rfl, fun marked => ?_, fun unmarked room => ?_⟩
    · dsimp only
      rw [if_pos marked]
    · dsimp only
      rw [if_neg (by simp [unmarked]), enterOpen_of_room (by exact room)]

theorem changeBank_same (hk : 2 ≤ k.val) (ha : p.assignment = b.assignmentFor k) :
    p.changeBank b k = { p with changeover := false } := by
  unfold changeBank
  dsimp only
  rw [if_neg (sort_of_le hk), if_pos ha]

theorem changeBank_marked (hk : 2 ≤ k.val) (ha : p.assignment ≠ b.assignmentFor k)
    (hs : p.state ∈ [.closing, .complete, .strapping, .awaitingRemoval, .inhibited, .fault]) :
    p.changeBank b k = { p with changeover := true } := by
  unfold changeBank
  dsimp only
  rw [if_neg (sort_of_le hk), if_neg ha]
  split <;> simp_all

theorem changeBank_takes (hk : 2 ≤ k.val) (ha : p.assignment ≠ b.assignmentFor k)
    (hs : p.state = .disabled ∨ p.state = .unaccounted) :
    p.changeBank b k = takeAssignment b k { p with changeover := true } := by
  unfold changeBank
  dsimp only
  rw [if_neg (sort_of_le hk), if_neg ha]
  rcases hs with hs | hs <;> rw [hs]

theorem changeBank_closes (hk : 2 ≤ k.val) (ha : p.assignment ≠ b.assignmentFor k)
    (hs : p.state = .open ∨ p.state = .full) : p.changeBank b k = close b k { p with changeover := true } := by
  unfold changeBank
  dsimp only
  rw [if_neg (sort_of_le hk), if_neg ha]
  rcases hs with hs | hs <;> rw [hs]

theorem changeBank_first (hk : k.val < 2) (hs : p.state ≠ .disabled) :
    p.changeBank b k = setLimit { p with assignment := b.assignmentFor k } := by
  unfold changeBank
  dsimp only
  rw [if_pos (first_of_lt hk), if_neg hs]

theorem changeBank_first_disabled (hk : k.val < 2) (hs : p.state = .disabled) : p.changeBank b k
    = if p.unaccounted then { p with
          assignment := b.assignmentFor k, limit := limitFor { p with assignment := b.assignmentFor k }, state := .unaccounted }
      else enterOpen { p with
        assignment := b.assignmentFor k, limit := limitFor { p with assignment := b.assignmentFor k } } := by
  unfold changeBank
  dsimp only
  rw [if_pos (first_of_lt hk), if_pos hs]

end Pocket

/-! ## COMMIT_TABLES (R130, R131) -/

variable {cmd : QueuedCommand} {rest : List QueuedCommand} {n : Nat}

theorem actCommit_pending (h : s.tbs.swapPending = true) : actCommit cmd s = (s, refusal .swapPending 0) := if_pos h

theorem actCommit_failed (hp : s.tbs.swapPending = false) (hf : s.tbs.shadow.failedCheck s.tbs.params = some n) :
    actCommit cmd s = (s, refusal .invalidTables n) := by
  unfold actCommit
  rw [if_neg (by simp [hp]), hf]
  rfl

theorem actCommit_passed (hp : s.tbs.swapPending = false) (hf : s.tbs.shadow.failedCheck s.tbs.params = none) :
    actCommit cmd s = (s.commitTables, Answer.done) := by
  unfold actCommit
  rw [if_neg (by simp [hp]), hf]
  rfl

theorem commitTables_busy (h : s.activeContext ≠ none ∨ s.trk.queue ≠ []) :
    s.commitTables = { s with tbs := { s.tbs with swapPending := true } } := by
  refine if_neg fun ⟨context, queue⟩ => ?_
  rcases h with active | entries
  · exact active (by simpa using context)
  · exact entries (by simpa using queue)

theorem commitTables_idle (hc : s.activeContext = none) (hq : s.trk.queue = []) : s.commitTables = s.swap :=
  if_pos ⟨by simp [hc], by simp [hq]⟩

/-- R130, R131: what the take of COMMIT_TABLES leaves. -/
theorem commitTables_take {q : QueuedCommand} (hs : s.Quiet) (hd : s.Due .commitTables q rest) (hb : q.broadcast = false)
    (hl : q.payload = []) :
    (s.tbs.swapPending = true → exec .commitTables s = .next (s.concluded q rest (refusal .swapPending 0)))
    ∧ (∀ n, s.tbs.swapPending = false → s.tbs.shadow.failedCheck s.tbs.params = some n →
        exec .commitTables s = .next (s.concluded q rest (refusal .invalidTables n)))
    ∧ (s.tbs.swapPending = false → s.tbs.shadow.failedCheck s.tbs.params = none →
        (s.activeContext ≠ none ∨ s.trk.queue ≠ [] →
          exec .commitTables s = .next (State.concluded q rest Answer.done
            { s with tbs := { s.tbs with swapPending := true } }))
        ∧ (s.activeContext = none → s.trk.queue = [] →
          ∃ t, s.Answers .commitTables q Answer.done (s.taken rest).swapped t ∧ t.pkm.blocked = 0
            ∧ ∀ k p, p = (s.pocket k).changeBank s.tbs.shadow k → p.state ≠ .complete → p.state ≠ .awaitingRemoval →
                t.pocket k = p)) := by
  have long (act : Act) (u : State) : needLength 0 act q u = act q u := needLength_of_nil (by simp [hl]) u
  refine ⟨fun hp => ?_, fun n hp hf => ?_, fun hp hf => ⟨fun busy => ?_, fun hc hq => ?_⟩⟩
  · exact congrArg Host.Outcome.next (take_unchanged hs hd hb
      ((long actCommit _).trans (actCommit_pending (s := s.taken rest) hp)))
  · exact congrArg Host.Outcome.next (take_unchanged hs hd hb
      ((long actCommit _).trans (actCommit_failed (s := s.taken rest) hp hf)))
  · have passed := actCommit_passed (s := s.taken rest) (cmd := q) hp hf
    rw [commitTables_busy (s := s.taken rest) busy] at passed
    have quiet : State.Quiet { s with tbs := { s.tbs with swapPending := true } } := hs
    exact congrArg Host.Outcome.next (take_concluded hd hb ((long actCommit _).trans passed) quiet)
  · have passed := actCommit_passed (s := s.taken rest) (cmd := q) hp hf
    rw [commitTables_idle (s := s.taken rest) hc hq] at passed
    obtain ⟨t, taken, replied, settled⟩ := take_answers hd hb ((long actCommit _).trans passed) (by simp)
      (by simp [State.taken])
    have pocket (k : PocketNo) := State.swap_pocket k (s.taken rest)
    refine ⟨t, ⟨congrArg Host.Outcome.next taken, replied, ?_⟩, ?_, fun k p changed complete removal => ?_⟩
    · exact settled.agrees.trans (State.swap_agrees _)
    · exact settled.unblocks.blocked_zero (State.swap_blocked _)
    · have same : (s.taken rest).swap.pocket k = p := (pocket k).trans changed.symm
      rw [settled.pocket_of_still (by rw [same]; exact .of_state complete removal), same]

end Sys2Proof.Machine

section
open Sys2Proof Sys2Proof.Machine

/-- Settles O42: the command by the order of its tests; the assignments by the class that lists the pocket; the changeover of a
pocket record by its number and its state. -/
theorem commitTables : Obligations.CommitTables := by
  refine ⟨fun s q rest hs hd hb hl => commitTables_take hs hd hb hl, fun b k hk => ⟨fun h => ?_, fun c hc only kind hkind => ?_⟩,
    fun b k p q e => ⟨fun hk => ⟨fun ha => ?_, fun ha => ⟨fun hs => ?_, fun hs => ?_, fun hs => ?_⟩⟩,
      fun hk filled limit hf hl => ?_⟩⟩
  · rw [Bank.assignmentFor_sort hk, Bank.classOf_of_unlisted h]
    rfl
  · rw [Bank.assignmentFor_sort hk, Bank.classOf_of_listed hc only, hkind]
    rfl
  · rw [e, Pocket.changeBank_same hk ha]
  · rw [e, Pocket.changeBank_marked hk ha hs]
  · rw [e, Pocket.changeBank_takes hk ha (by simpa using hs)]
    exact Pocket.takeAssignment_took b k { p with changeover := true }
  · rw [Pocket.changeBank_closes hk ha (by simpa using hs)] at e
    refine ⟨fun hc => ?_, fun hc hh => ?_, fun hc hh => ?_⟩
    · rw [e, Pocket.close_of_committed (by exact hc)]
    · rw [e, Pocket.close_of_held (by exact hc) (by exact hh)]
      rfl
    · rw [e, Pocket.close_of_empty (by exact hc) (by exact hh), if_pos rfl]
      exact Pocket.takeAssignment_took b k { p with changeover := true, state := .closing }
  · subst hf
    have assignment := Bank.assignmentFor_first (b := b) hk
    by_cases hd : p.state = .disabled
    · have set := (Pocket.limitFor_of_loose (cls := none) (pure := false) (p := { p with assignment := _ }) rfl).1.trans hl.symm
      rw [Pocket.changeBank_first_disabled hk hd, assignment, set] at e
      by_cases marked : p.unaccounted = true
      · rw [if_pos marked] at e
        exact ⟨_, e, fun _ _ => rfl, fun _ h => absurd (marked.symm.trans h) (by decide), fun h => absurd h (by simp [hd]),
          fun h => absurd h (by simp [hd])⟩
      · rw [if_neg marked, Pocket.enterOpen, Pocket.limitTest_keeps] at e
        refine ⟨_, e, fun _ h => absurd h marked, fun _ _ room => ?_, fun h => absurd h (by simp [hd]),
          fun h => absurd h (by simp [hd])⟩
        rw [Pocket.limitTest_of_open rfl room]
    · rw [Pocket.changeBank_first hk hd, assignment] at e
      obtain ⟨set, follows, stays⟩ := Pocket.setLimit_of_loose (p := { p with assignment := _ }) rfl hl
      rw [set] at e
      refine ⟨_, e, fun h => absurd h hd, fun h => absurd h hd, follows, fun h => ?_⟩
      obtain ⟨-, notOpen, notFull⟩ : p.state ≠ .disabled ∧ p.state ≠ .open ∧ p.state ≠ .full := by simpa using h
      exact stays notOpen notFull

end

/-! SUPPORT. Line clear at a pocket (R97) and at the deposits (R122, R123), and the statement about LINE_CONTROL CLEAR. -/

namespace Sys2Proof.Machine

/- One theorem at a time: many at once exhaust the threads. -/
set_option Elab.async false

variable {s t u : State} {j k : PocketNo} {p q : Pocket} {b : Bank} {cmd : QueuedCommand} {rest : List QueuedCommand}

/-! ## A cleared pocket -/

namespace Pocket

/-- R97 step 1: the pocket as its CLEARED record is written. -/
def toClear (p : Pocket) : Pocket := { p with short := p.short || decide (p.held < p.limit) }

/-- R97 steps 1 and 2: the pocket with its notes recorded, and without order and timer; `next` is the next bundle number. -/
def recorded (next : Nat) (p : Pocket) : Pocket :=
  { (if 0 < p.held then p.toClear.issue .cleared next else p) with strapTimer := none, strapOrder := none }

theorem recorded_committed (next : Nat) (p : Pocket) : (p.recorded next).committed = p.committed := by
  unfold recorded
  split <;> rfl

theorem recorded_emptyEye (next : Nat) (p : Pocket) : (p.recorded next).emptyEye = p.emptyEye := by
  unfold recorded
  split <;> rfl

theorem recorded_held (next : Nat) (p : Pocket) : (p.recorded next).held = 0 := by
  unfold recorded
  split
  · rfl
  · next none => exact Nat.eq_zero_of_not_pos none

theorem recorded_record (h : 0 < p.held) (next : Nat) : (p.recorded next).record = some (p.toClear.bundleRecord .cleared) := by
  rw [recorded, if_pos h]
  rfl

/-- R97: what line clear leaves of a pocket `p`. -/
structure Cleared (p q : Pocket) : Prop where
  emptied : q.Emptied
  record : 0 < p.held → q.record = some (p.toClear.bundleRecord .cleared)
  fault : 0 < p.committed → q.state = .fault
  unaccounted : p.committed = 0 → p.emptyEye = true → q.state = .unaccounted ∧ q.unaccounted = true

/-! ## A cleared pocket at a swap (R91) -/

theorem setLimit_state (p : Pocket) : p.setLimit.state = p.state ∨ p.setLimit.state = .open ∨ p.setLimit.state = .full
    ∨ p.setLimit.state = .awaitingRemoval := limitTest_state { p with limit := p.limitFor }

theorem enterOpen_not_complete (p : Pocket) : p.enterOpen.state ≠ .complete := by
  rcases enterOpen_state p with h | h | h <;> rw [h] <;> decide

theorem setLimit_not_complete (h : p.state ≠ .complete) : p.setLimit.state ≠ .complete := by
  rcases setLimit_state p with same | o | f | a
  · rwa [same]
  · rw [o]; decide
  · rw [f]; decide
  · rw [a]; decide

theorem close_not_complete (hh : p.held = 0) : (p.close b k).state ≠ .complete := by
  by_cases hc : p.committed = 0
  · rw [close_of_empty hc hh]
    split
    · exact takeAssignment_not_complete b k _
    · exact enterOpen_not_complete p
  · rw [close_of_committed (Nat.pos_of_ne_zero hc)]
    simp

/-- A swap completes no bundle of a pocket that holds no notes. -/
theorem changeBank_not_complete (hh : p.held = 0) (hs : p.state ≠ .complete) : (p.changeBank b k).state ≠ .complete := by
  unfold changeBank
  dsimp only
  split
  · split
    · split
      · simp
      · exact enterOpen_not_complete _
    · exact setLimit_not_complete hs
  · split
    · exact hs
    · split
      · exact takeAssignment_not_complete b k _
      · exact takeAssignment_not_complete b k _
      · exact close_not_complete hh
      · exact close_not_complete hh
      all_goals simp_all

theorem Emptied.changeBank (h : p.Emptied) (b : Bank) (k : PocketNo) : (p.changeBank b k).Emptied := by
  obtain ⟨held, order, timer, state⟩ := h
  obtain ⟨orders, timers⟩ := slots_of_contents (contents_changeBank b k p)
  exact ⟨(held_of_contents (contents_changeBank b k p)).trans held, orders.trans order, timers.trans timer,
    changeBank_not_complete held state⟩

end Pocket

namespace State

/-! ## Line clear at pocket `k` (R97) -/

/-- R97 steps 1 and 2 at pocket `k`. -/
def recordedAt (k : PocketNo) (s : State) : State :=
  (s.issueCleared k).putPocket k { (s.issueCleared k).pocket k with strapTimer := none, strapOrder := none }

theorem clearPocket_eq (h : (s.pocket k).state ≠ .disabled) : s.clearPocket k
    = if 0 < ((s.recordedAt k).pocket k).committed then (s.recordedAt k).faultPocket k
      else (s.recordedAt k).settleCleared k := if_neg h

theorem clearPocket_disabled (h : (s.pocket k).state = .disabled) : s.clearPocket k = s := if_pos h

theorem issueCleared_pocket_same (k : PocketNo) (s : State) : ∃ next, (s.issueCleared k).pocket k
    = if 0 < (s.pocket k).held then (s.pocket k).toClear.issue .cleared next else s.pocket k := by
  refine ⟨(s.putPocket k (s.pocket k).toClear).pkm.nextBundle, ?_⟩
  unfold issueCleared
  dsimp only
  split
  · rw [issueRecord_pocket_same, putPocket_pocket_same]
    rfl
  · rfl

theorem recordedAt_pocket_same (k : PocketNo) (s : State) :
    ∃ next, (s.recordedAt k).pocket k = (s.pocket k).recorded next := by
  obtain ⟨next, issued⟩ := issueCleared_pocket_same k s
  exact ⟨next, by rw [recordedAt, putPocket_pocket_same, issued]; rfl⟩

theorem issueCleared_pocketOnly (k : PocketNo) (s : State) : (s.issueCleared k).PocketOnly s := by
  unfold issueCleared
  dsimp only
  split
  · exact (issueRecord_pocketOnly k _ _).trans (putPocket_pocketOnly rfl)
  · exact .refl s

theorem recordedAt_pocketOnly (k : PocketNo) (s : State) : (s.recordedAt k).PocketOnly s := by
  refine PocketOnly.trans (putPocket_pocketOnly ?_) (issueCleared_pocketOnly k s)
  rfl

theorem settleCleared_pocketOnly (k : PocketNo) (s : State) : (s.settleCleared k).PocketOnly s := by
  unfold settleCleared
  split
  · exact putPocket_pocketOnly rfl
  · exact (startBundle_pocketOnly k _).trans (putPocket_pocketOnly rfl)

theorem clearPocket_pocketOnly (k : PocketNo) (s : State) : (s.clearPocket k).PocketOnly s := by
  by_cases h : (s.pocket k).state = .disabled
  · rw [clearPocket_disabled h]
    exact .refl s
  · rw [clearPocket_eq h]
    split
    · exact (faultPocket_pocketOnly k _).trans (recordedAt_pocketOnly k s)
    · exact (settleCleared_pocketOnly k _).trans (recordedAt_pocketOnly k s)

theorem issueCleared_keeps (k : PocketNo) (s : State) : (s.issueCleared k).dpu = s.dpu ∧ (s.issueCleared k).lnk = s.lnk := by
  unfold issueCleared
  dsimp only
  split <;> simp

theorem clearPocket_keeps (k : PocketNo) (s : State) : (s.clearPocket k).dpu = s.dpu ∧ (s.clearPocket k).lnk = s.lnk := by
  have settled (u : State) : (u.settleCleared k).dpu = u.dpu ∧ (u.settleCleared k).lnk = u.lnk := by
    unfold settleCleared
    split <;> simp
  by_cases h : (s.pocket k).state = .disabled
  · rw [clearPocket_disabled h]
    exact ⟨rfl, rfl⟩
  · rw [clearPocket_eq h, recordedAt]
    split <;> simp [settled, issueCleared_keeps]

theorem pocket_issueCleared_other (h : j ≠ k) (s : State) : (s.issueCleared k).pocket j = s.pocket j := by
  unfold issueCleared
  dsimp only
  split
  · rw [pocket_issueRecord_other h, pocket_putPocket_other h]
  · rfl

theorem pocket_clearPocket_other (h : j ≠ k) (s : State) : (s.clearPocket k).pocket j = s.pocket j := by
  have recorded : (s.recordedAt k).pocket j = s.pocket j := by
    rw [recordedAt, pocket_putPocket_other h, pocket_issueCleared_other h]
  by_cases hd : (s.pocket k).state = .disabled
  · rw [clearPocket_disabled hd]
  · rw [clearPocket_eq hd]
    split
    · rw [pocket_faultPocket_other h, recorded]
    · unfold settleCleared
      split
      · rw [pocket_putPocket_other h, recorded]
      · rw [pocket_startBundle_other h, pocket_putPocket_other h, recorded]

/-- R93: what FAULT leaves of a pocket that holds no notes and has neither order nor timer. -/
theorem faultPocket_emptied (hh : (s.pocket k).held = 0) (ho : (s.pocket k).strapOrder = none)
    (ht : (s.pocket k).strapTimer = none) : ((s.faultPocket k).pocket k).Emptied
      ∧ ((s.faultPocket k).pocket k).record = (s.pocket k).record := by
  by_cases hf : (s.pocket k).state = .fault
  · have stays : s.faultPocket k = s := if_pos hf
    rw [stays]
    exact ⟨⟨hh, ho, ht, by simp [hf]⟩, rfl⟩
  · rw [faultPocket_pocket_same hf]
    exact ⟨⟨hh, rfl, rfl, by simp⟩, rfl⟩

/-- R97 step 4: what is left of a pocket that holds no notes and has neither order nor timer. -/
theorem settleCleared_emptied (hh : (s.pocket k).held = 0) (ho : (s.pocket k).strapOrder = none)
    (ht : (s.pocket k).strapTimer = none) : ((s.settleCleared k).pocket k).Emptied
      ∧ ((s.settleCleared k).pocket k).record = (s.pocket k).record := by
  unfold settleCleared
  split
  · rw [putPocket_pocket_same]
    exact ⟨⟨hh, ho, ht, by simp⟩, rfl⟩
  · have slots := Pocket.slots_of_contents (Pocket.contents_restart
      (s.putPocket k { s.pocket k with unaccounted := false }).tbs.active k { s.pocket k with unaccounted := false })
    rw [startBundle_record, startBundle_pocket_same, putPocket_pocket_same]
    obtain ⟨order, timer⟩ := slots
    exact ⟨⟨(Pocket.restart_held _ _ _).trans hh, order.trans ho, timer.trans ht, Pocket.restart_not_complete _ _ _⟩, rfl⟩

/-- R97: what line clear leaves of a pocket in use. -/
theorem clearPocket_cleared (h : (s.pocket k).state ≠ .disabled) : (s.pocket k).Cleared ((s.clearPocket k).pocket k) := by
  obtain ⟨next, recorded⟩ := recordedAt_pocket_same k s
  have held : ((s.recordedAt k).pocket k).held = 0 := by rw [recorded, Pocket.recorded_held]
  have order : ((s.recordedAt k).pocket k).strapOrder = none := by rw [recorded]; rfl
  have timer : ((s.recordedAt k).pocket k).strapTimer = none := by rw [recorded]; rfl
  have committed : ((s.recordedAt k).pocket k).committed = (s.pocket k).committed := by
    rw [recorded, Pocket.recorded_committed]
  have record (hh : 0 < (s.pocket k).held) :
      ((s.recordedAt k).pocket k).record = some ((s.pocket k).toClear.bundleRecord .cleared) := by
    rw [recorded, Pocket.recorded_record hh]
  rw [clearPocket_eq h, committed]
  split
  · next hc =>
    obtain ⟨emptied, kept⟩ := faultPocket_emptied held order timer
    exact ⟨emptied, fun hh => kept.trans (record hh), fun _ => faultPocket_state k _, fun none => absurd none hc.ne'⟩
  · next hc =>
    obtain ⟨emptied, kept⟩ := settleCleared_emptied held order timer
    refine ⟨emptied, fun hh => kept.trans (record hh), fun some => absurd some hc, fun _ eye => ?_⟩
    have active : ((s.recordedAt k).pocket k).emptyEye = true := by rw [recorded, Pocket.recorded_emptyEye, eye]
    rw [settleCleared, if_pos active, putPocket_pocket_same]
    exact ⟨rfl, rfl⟩

/-! ## Line clear (R155) -/

theorem clearPockets_pocketOnly (s : State) : s.clearPockets.PocketOnly s := by
  have passed (l : List PocketNo) (s : State) : (l.foldl (fun s k => s.clearPocket k) s).PocketOnly s := by
    induction l generalizing s with
    | nil => exact .refl s
    | cons j l ih => exact (ih (s.clearPocket j)).trans (clearPocket_pocketOnly j s)
  exact passed allPockets s

theorem clearPocket_tbs (k : PocketNo) (s : State) : (s.clearPocket k).tbs = s.tbs := by
  obtain ⟨-, ⟨-, -, tables, -⟩, -⟩ := clearPocket_pocketOnly k s
  exact tables

theorem clearPockets_tbs (s : State) : s.clearPockets.tbs = s.tbs :=
  foldl_keeps (fun s => s.tbs) (fun s j => clearPocket_tbs j s) allPockets s

theorem clearPockets_keeps (s : State) : s.clearPockets.dpu = s.dpu ∧ s.clearPockets.lnk = s.lnk :=
  ⟨foldl_keeps (fun s => s.dpu) (fun s j => (clearPocket_keeps j s).1) allPockets s,
    foldl_keeps (fun s => s.lnk) (fun s j => (clearPocket_keeps j s).2) allPockets s⟩

theorem clearPockets_cleared (h : (s.pocket k).state ≠ .disabled) :
    (s.pocket k).Cleared (s.clearPockets.pocket k) := by
  obtain ⟨v, pocket, -, visited⟩ := allPockets_visit (k := k) (f := fun s j => s.clearPocket j)
    (fun s j hj => pocket_clearPocket_other hj s) (fun s j => clearPocket_tbs j s) s
  rw [clearPockets, visited, ← pocket]
  exact clearPocket_cleared (by rwa [pocket])

/-- R122: line clear at a context, by its state. -/
theorem abort_eq (gen : Nat) (c : Context) : c.abort gen = if c.state = .recordPending then c else { c with
    state := .recordPending, endKind := some .aborted, closeGen := if c.state = .active then some gen else c.closeGen
    inDoubt := c.inDoubt + c.inTransit, inTransit := 0 } := by
  unfold Context.abort Context.counting
  cases state : c.state <;> simp

theorem counting_eq (c : Context) : c.counting = decide (c.state ≠ .recordPending) := by
  unfold Context.counting
  cases c.state <;> rfl

theorem abortDeposits_dpu (s : State) : s.abortDeposits.dpu = { s.dpu with
    contexts := s.dpu.contexts.map (fun c => if c.state = .recordPending then c else { c with
      state := .recordPending, endKind := some .aborted
      closeGen := if c.state = .active then some s.tbs.generation else c.closeGen
      inDoubt := c.inDoubt + c.inTransit, inTransit := 0 })
    completion := s.dpu.completion
      ++ (s.dpu.contexts.filter (fun c => decide (c.state ≠ .recordPending))).map Context.seq
    declarations := [] } := by
  have aborted := funext (abort_eq s.tbs.generation)
  have counting := funext counting_eq
  rw [abortDeposits, aborted, counting]

theorem swapTrigger_tbs (h : t.tbs = s.tbs) : t.swapTrigger.tbs = s.swappedIfPending.tbs := by
  have exchange : s.tbs.exchange = s.swapped.tbs := by
    rw [swapped_eq]
    simp [raise]
  have swapped : t.swap.tbs = t.tbs.exchange := by simp [swap_eq, exchanged]
  unfold swapTrigger swappedIfPending
  rw [h]
  split
  · rw [swapped, h, exchange]
  · exact h

/-- R91, R97: what a swap that follows leaves of a cleared pocket. -/
theorem swapTrigger_cleared (h : p.Cleared (s.pocket k)) : (s.swapTrigger.pocket k).Emptied
    ∧ (0 < p.held → (s.swapTrigger.pocket k).record = some (p.toClear.bundleRecord .cleared))
    ∧ (0 < p.committed → (s.swapTrigger.pocket k).state = .fault) := by
  obtain ⟨emptied, record, fault, -⟩ := h
  have swapped := swapTrigger_revises k s
  obtain ⟨-, -, -, -, slot⟩ := Pocket.fields_of_contents swapped.contents
  refine ⟨?_, fun hh => slot.trans (record hh), fun hc => ?_⟩
  · unfold swapTrigger
    split
    · rw [swap_pocket]
      exact emptied.changeBank _ k
    · exact emptied
  · rw [swapped.state (by simp [Pocket.Unmoved, fault hc]), fault hc]

theorem swapTrigger_of_none (h : s.tbs.swapPending = false) : s.swapTrigger = s := if_neg (by simp [h])

theorem lineClear_lnk (s : State) : s.lineClear.lnk = s.lnk := by
  simp [lineClear, clearPockets_keeps, abortDeposits]

/-- R155: what line clear leaves alone, and what it leaves of the tables and the deposits. -/
theorem lineClear_keeps (h : s.lsv.line ≠ .standby) : s.lineClear.trk = s.trk ∧ s.lineClear.idu = s.idu
    ∧ s.lineClear.rte = s.rte ∧ s.lineClear.gdr = s.gdr ∧ s.lineClear.evu.counters = s.evu.counters
    ∧ s.lineClear.lsv.line = s.lsv.line ∧ s.lineClear.lsv.reason = s.lsv.reason
    ∧ s.lineClear.lsv.further = s.lsv.further ∧ s.lineClear.lsv.stopRequest = s.lsv.stopRequest
    ∧ s.lineClear.tbs = s.swappedIfPending.tbs ∧ s.lineClear.dpu = s.abortDeposits.dpu
    ∧ ∀ k, (s.lineClear.pocket k).committed = (s.pocket k).committed := by
  obtain ⟨⟨idu, rte, -⟩, ⟨trk, gdr, tables, line, reason, further, stop, -, -, -, -, -, committed⟩, counters⟩ :=
    clearPockets_pocketOnly s.abortDeposits
  have swapped (k : PocketNo) := swapTrigger_revises k s.abortDeposits.clearPockets
  have moving : s.abortDeposits.clearPockets.lsv.line ≠ .standby := by
    rw [line]
    exact h
  have sameLine := swapTrigger_line moving
  obtain ⟨trk', idu', rte', gdr', dpu', -, -, -, reason', further', stop', -, -, -, -, -, -, -, counters', -⟩ :=
    swapTrigger_keeps s.abortDeposits.clearPockets
  have banks : s.abortDeposits.clearPockets.tbs = s.tbs := tables
  have swappedBanks := swapTrigger_tbs banks
  unfold lineClear
  refine ⟨trk'.trans trk, idu'.trans idu, rte'.trans rte, gdr'.trans gdr, counters'.trans counters, sameLine.trans line,
    reason'.trans reason, further'.trans further, stop'.trans stop, swappedBanks,
    dpu'.trans (clearPockets_keeps _).1, fun k => ?_⟩
  · obtain ⟨same, -⟩ := Pocket.fields_of_contents (swapped k).contents
    have stays : (s.abortDeposits.pocket k).committed = (s.pocket k).committed := rfl
    exact same.trans ((committed k).trans stays)

end State

theorem actClear_refused (h : (s.lsv.line ≠ .ready ∧ s.lsv.line ≠ .haltStopped) ∨ ∃ k, (s.pocket k).record ≠ none) :
    actClear cmd s = (s, refusal .state 0) := by
  have refused : ¬ s.clearAllowed = true := by
    rw [State.clearAllowed, Bool.and_eq_true, decide_eq_true_eq, Option.isNone_iff_eq_none, State.firstRecord_eq_none]
    rintro ⟨line, records⟩
    rcases h with ⟨ready, stopped⟩ | ⟨k, occupied⟩
    · exact line.elim ready stopped
    · exact occupied (records k)
  exact if_neg refused

theorem actClear_eq (hl : s.lsv.line = .ready ∨ s.lsv.line = .haltStopped) (hr : ∀ k, (s.pocket k).record = none) :
    actClear cmd s = (s.lineClear, Answer.done) := by
  have allowed : s.clearAllowed = true := by
    rw [State.clearAllowed, Bool.and_eq_true, decide_eq_true_eq, Option.isNone_iff_eq_none, State.firstRecord_eq_none]
    exact ⟨hl, hr⟩
  exact if_pos allowed

end Sys2Proof.Machine

section
open Sys2Proof Sys2Proof.Machine

/-- Settles O50: line clear takes the deposits at once and the pockets one by one; a pending swap and the end of the event leave
a pocket without notes, order and timer so, keep its record, and do not take it from FAULT. -/
theorem lineClear : Obligations.LineClear := by
  intro s q rest hs hd hb
  refine ⟨fun refused => ?_, fun hl hr => ?_⟩
  · exact congrArg Host.Outcome.next (take_unchanged hs hd hb (actClear_refused (s := s.taken rest) refused))
  obtain ⟨t, taken, replied, settled⟩ := take_answers hd hb (actClear_eq (s := s.taken rest) hl hr)
    (State.lineClear_cmp _) (by rw [State.lineClear_lnk]; rfl)
  have moving : (s.taken rest).lsv.line ≠ .standby := by
    rcases hl with e | e <;> exact fun x => absurd (e.symm.trans x) (by decide)
  obtain ⟨trk, idu, rte, gdr, counters, line, reason, further, stop, tables, deposits, committed⟩ :=
    State.lineClear_keeps moving
  have agrees := settled.agrees
  have bank : ((s.taken rest).swappedIfPending).tbs = s.swappedIfPending.tbs :=
    (State.swapTrigger_tbs (t := s.taken rest) rfl).symm.trans (State.swapTrigger_tbs (t := s.taken rest) rfl)
  obtain ⟨-, -, -, -, -, -, stop', -⟩ := agrees.lineKept
  refine ⟨t, congrArg Host.Outcome.next taken, replied, (trk_of_steady agrees).trans trk, (idu_of_steady agrees).trans idu,
    (rte_of_steady agrees).trans rte, (gdr_of_steady agrees).trans gdr, (counters_of_steady agrees).trans counters,
    (line_of_steady agrees).trans line, agrees.reason.trans reason, agrees.further.trans further, stop'.trans stop,
    (tbs_of_steady agrees).trans (tables.trans bank), ?_, fun k => (agrees.committed k).trans (committed k), fun k hk => ?_⟩
  · rw [settled.deposits, deposits, State.abortDeposits_dpu]
    rfl
  · have cleared : (s.pocket k).Cleared ((s.taken rest).abortDeposits.clearPockets.pocket k) :=
      State.clearPockets_cleared (s := (s.taken rest).abortDeposits) hk
    obtain ⟨emptied, record, fault⟩ := State.swapTrigger_cleared cleared
    obtain ⟨held, order, timer, -⟩ := emptied.chain (settled.steps k)
    refine ⟨held, order, timer, fun hh => ?_, fun hc => ?_, fun hc he hp => ?_⟩
    · have kept := Pocket.record_chain (p := (s.taken rest).lineClear.pocket k) (by
        rw [State.lineClear, record hh]
        simp) (settled.steps k)
      exact kept.trans (record hh)
    · have still : ((s.taken rest).lineClear.pocket k).Still := .of_state (by simp [State.lineClear, fault hc])
        (by simp [State.lineClear, fault hc])
      rw [settled.pocket_of_still still]
      exact fault hc
    · have unmarked : (s.taken rest).abortDeposits.clearPockets.tbs.swapPending = false :=
        (congrArg TableStore.swapPending (State.clearPockets_tbs (s.taken rest).abortDeposits)).trans hp
      have same : (s.taken rest).lineClear = (s.taken rest).abortDeposits.clearPockets := State.swapTrigger_of_none unmarked
      obtain ⟨state, marker⟩ := cleared.unaccounted hc he
      rw [← same] at state marker
      rw [settled.pocket_of_still (.of_state (by simp [state]) (by simp [state]))]
      exact ⟨state, marker⟩

end

/-! SUPPORT. The end of the ACTIVE deposit by command (R109, R110), the closing of the deposit-pure pockets (R89), and the
statement about FORCE_DEPOSIT_END. -/

namespace Sys2Proof.Machine

/- One theorem at a time: many at once exhaust the threads. -/
set_option Elab.async false

variable {s t u : State} {j k : PocketNo} {p q : Pocket} {b : Bank} {d gen : Nat} {c : Context} {cmd : QueuedCommand}
  {rest : List QueuedCommand}

/-! ## A closed pocket at a swap -/

namespace Pocket

/-- A change of banks ends no bundle of a pocket that it does not take from its state. -/
theorem changeBank_short (h : p.Unmoved) (b : Bank) (k : PocketNo) : (p.changeBank b k).short = p.short := by
  obtain ⟨hd, hu, ho, hf⟩ := h
  by_cases hk : 2 ≤ k.val
  · by_cases ha : p.assignment = b.assignmentFor k
    · rw [changeBank_same hk ha]
    · rw [changeBank_marked hk ha]
      cases hs : p.state <;> simp_all
  · rw [changeBank_first (by omega) hd, setLimit_eq]

theorem holdsOnly_of (hp : p.isPure = true) (hs : p.state = .open ∨ p.state = .full)
    (hl : p.contributions.map Contribution.deposit = [d]) : p.holdsOnly d = true := by
  simp only [holdsOnly, hp, hl, hs, decide_true, Bool.and_self]

end Pocket

namespace State

/-- R91, R133: what a trigger leaves of a pocket that a swap does not take from its state. -/
theorem swapTrigger_unmoved (h : (s.pocket k).Unmoved) : (s.swapTrigger.pocket k).state = (s.pocket k).state
    ∧ (s.swapTrigger.pocket k).short = (s.pocket k).short
    ∧ (s.swapTrigger.pocket k).contents = (s.pocket k).contents := by
  have revised := swapTrigger_revises k s
  refine ⟨revised.state h, ?_, revised.contents⟩
  unfold swapTrigger
  split
  · rw [swap_pocket, Pocket.changeBank_short h]
  · rfl

/-! ## The deposit-pure pockets (R89) -/

theorem closePure_agrees (d : Nat) (s : State) : (s.closePure d).AgreesWith s := by
  refine foldl_keeps State.steady (fun s j => ?_) allPockets s
  split
  · exact steady_reenterPocket (Pocket.steady_of_contents (Pocket.contents_close _ j _))
  · rfl

/-- R89: a deposit-pure pocket that holds the ended deposit alone is closed. -/
theorem closePure_pocket (h : (s.pocket k).holdsOnly d = true) :
    (s.closePure d).pocket k = (s.pocket k).close s.tbs.active k := by
  have other (s : State) (j : PocketNo) (hj : k ≠ j) : (if (s.pocket j).holdsOnly d = true
      then s.reenterPocket j ((s.pocket j).close s.tbs.active j) else s).pocket k = s.pocket k := by
    split
    · exact pocket_reenterPocket_other hj _ s
    · rfl
  have tables (s : State) (j : PocketNo) : (if (s.pocket j).holdsOnly d = true
      then s.reenterPocket j ((s.pocket j).close s.tbs.active j) else s).tbs = s.tbs := by
    split <;> simp
  obtain ⟨v, pocket, same, visited⟩ := allPockets_visit other tables s
  rw [closePure, visited, pocket, if_pos h, reenterPocket_pocket_same, same]

end State

/-! ## The forced end (R108, R109) -/

/-- R108: a context that enters DRAINING by command; `gen` is the active generation. -/
def Context.forced (gen : Nat) (c : Context) : Context :=
  { c with state := .draining, endKind := some .forced, closeGen := some gen }

/-- The same for a context that still takes deliveries; one in RECORD_PENDING stays. -/
def Context.forcedIfCounting (gen : Nat) (c : Context) : Context := if c.counting then c.forced gen else c

theorem forcedIfCounting_counting (gen : Nat) (c : Context) : (c.forcedIfCounting gen).counting = c.counting := by
  unfold Context.forcedIfCounting
  split
  · next h => rw [h]; rfl
  · rfl

theorem forcedIfCounting_seq (gen : Nat) (c : Context) : (c.forcedIfCounting gen).seq = c.seq := by
  unfold Context.forcedIfCounting
  split <;> rfl

namespace State

theorem mem_of_activeContext (h : s.activeContext = some c) : c ∈ s.dpu.contexts ∧ c.state = .active :=
  ⟨List.mem_of_find?_eq_some h, by simpa using List.find?_some h⟩

theorem counting_of_active (h : c.state = .active) : c.counting = true := by
  unfold Context.counting
  rw [h]

/-- R99: the ACTIVE context is the one of its sequence. -/
theorem countingContext_of_active (h : s.activeContext = some c) (hn : (s.dpu.contexts.map Context.seq).Nodup) :
    s.countingContext c.seq = some c := by
  obtain ⟨mem, active⟩ := mem_of_activeContext h
  cases found : s.countingContext c.seq with
  | none => exact absurd (counting_of_active active) (by simpa using List.find?_eq_none.mp found c mem)
  | some x =>
    obtain ⟨mem', -, same⟩ := of_countingContext found
    rw [eq_of_seq_eq hn mem' mem same]

/-- R108: the ACTIVE deposit drains. -/
def drained (c : Context) (s : State) : State := s.updateContext c.seq (Context.forcedIfCounting s.tbs.generation)

theorem drained_eq (c : Context) (s : State) :
    s.updateContext c.seq (Context.forced s.tbs.generation) = s.drained c := by
  have same : s.dpu.contexts.map
      (fun x => if x.counting = true ∧ x.seq = c.seq then x.forced s.tbs.generation else x)
      = s.dpu.contexts.map
        (fun x => if x.counting = true ∧ x.seq = c.seq then x.forcedIfCounting s.tbs.generation else x) := by
    refine List.map_congr_left fun x _ => ?_
    split
    · next h => rw [Context.forcedIfCounting, if_pos h.1]
    · rfl
  unfold drained updateContext
  rw [same]

theorem endActive_eq (h : s.activeContext = some c) : s.endActive .forced = (s.drained c).completionTest c.seq := by
  unfold endActive
  rw [h, ← drained_eq]
  rfl

theorem drained_context (h : s.activeContext = some c) (hn : (s.dpu.contexts.map Context.seq).Nodup) :
    (s.drained c).countingContext c.seq = some (c.forced s.tbs.generation) := by
  obtain ⟨-, active⟩ := mem_of_activeContext h
  rw [drained, countingContext_updateContext (forcedIfCounting_counting _) (forcedIfCounting_seq _),
    countingContext_of_active h hn, Option.map_some, Context.forcedIfCounting, if_pos (counting_of_active active)]

/-- R108: with notes in transit the deposit drains. -/
theorem endActive_drains (h : s.activeContext = some c) (hn : (s.dpu.contexts.map Context.seq).Nodup)
    (hi : 0 < c.inTransit) : s.endActive .forced = s.drained c := by
  rw [endActive_eq h, completionTest, drained_context h hn]
  exact if_neg fun ended => hi.ne' ended.2

/-- R110: with no notes in transit the deposit completes. -/
theorem endActive_completes (h : s.activeContext = some c) (hn : (s.dpu.contexts.map Context.seq).Nodup)
    (hi : c.inTransit = 0) : s.endActive .forced = (s.drained c).completeDeposit c.seq := by
  rw [endActive_eq h, completionTest, drained_context h hn]
  exact if_pos ⟨rfl, hi⟩

/-- R108: of contexts with distinct sequences the ACTIVE one alone drains. -/
theorem drained_contexts (h : s.activeContext = some c) (hn : (s.dpu.contexts.map Context.seq).Nodup) :
    s.drained c = { s with dpu := { s.dpu with contexts := s.dpu.contexts.map (fun x => if x.seq = c.seq then
      { x with state := .draining, endKind := some .forced, closeGen := some s.tbs.generation } else x) } } := by
  obtain ⟨mem, active⟩ := mem_of_activeContext h
  have same : s.dpu.contexts.map
      (fun x => if x.counting = true ∧ x.seq = c.seq then x.forced s.tbs.generation else x)
      = s.dpu.contexts.map (fun x => if x.seq = c.seq then x.forced s.tbs.generation else x) := by
    refine List.map_congr_left fun x hx => ?_
    by_cases hs : x.seq = c.seq
    · obtain rfl := eq_of_seq_eq hn hx mem hs
      rw [if_pos ⟨counting_of_active active, rfl⟩, if_pos rfl]
    · rw [if_neg fun e => hs e.2, if_neg hs]
  rw [← drained_eq, updateContext, same]
  rfl

theorem drained_distinct (c : Context) (hn : (s.dpu.contexts.map Context.seq).Nodup) :
    ((s.drained c).dpu.contexts.map Context.seq).Nodup := by
  have same : Context.seq ∘ (fun x => if x.counting = true ∧ x.seq = c.seq then x.forcedIfCounting s.tbs.generation else x)
      = Context.seq := by
    funext x
    simp only [Function.comp]
    split
    · exact forcedIfCounting_seq _ x
    · rfl
  rwa [drained, updateContext_dpu_contexts, List.map_map, same]

/-- R110: the contexts that take deliveries, after the deposit has drained and completed, are those of the other deposits. -/
theorem filter_completed (gen d : Nat) (l : List Context) :
    ((l.map (fun x => if x.counting = true ∧ x.seq = d then x.forcedIfCounting gen else x)).map
      (fun x => if x.counting = true ∧ x.seq = d then { x with state := .recordPending } else x)).filter Context.counting
      = (l.filter (fun x => x.seq != d)).filter Context.counting := by
  induction l with
  | nil => rfl
  | cons x l ih =>
    rw [List.map_cons, List.map_cons, List.filter_cons, ih, List.filter_cons]
    by_cases hs : x.seq = d
    · by_cases hc : x.counting = true
      · simp [hs, hc, forcedIfCounting_counting, forcedIfCounting_seq]
        rfl
      · simp [hs, hc]
    · simp [hs, List.filter_cons]

/-- R110: but for its record the completed deposit is gone. -/
theorem completed_agrees (c : Context) (s : State) : ((s.drained c).completeDeposit c.seq).AgreesWith
    { s with dpu := { s.dpu with contexts := s.dpu.contexts.filter (fun x => x.seq != c.seq) } } := by
  have contexts := filter_completed s.tbs.generation c.seq s.dpu.contexts
  refine AgreesWith.trans (closePure_agrees c.seq _) ?_
  unfold AgreesWith
  simp only [steady, drained, updateContext, contexts]

theorem completed_dpu (h : s.activeContext = some c) (hn : (s.dpu.contexts.map Context.seq).Nodup) :
    ((s.drained c).completeDeposit c.seq).dpu.completion = s.dpu.completion ++ [c.seq]
      ∧ { c with state := .recordPending, endKind := some .forced, closeGen := some s.tbs.generation }
          ∈ ((s.drained c).completeDeposit c.seq).dpu.contexts := by
  obtain ⟨mem, -⟩ := completeDeposit_awaits (drained_context h hn) (drained_distinct c hn)
  exact ⟨by simp [completeDeposit, drained], mem⟩

theorem completed_pocket (h : (s.pocket k).holdsOnly c.seq = true) :
    ((s.drained c).completeDeposit c.seq).pocket k = (s.pocket k).close s.tbs.active k :=
  closePure_pocket (s := { (s.drained c).updateContext c.seq (fun x => { x with state := .recordPending }) with
    dpu := { ((s.drained c).updateContext c.seq (fun x => { x with state := .recordPending })).dpu with
      completion := s.dpu.completion ++ [c.seq] } }) h

/-- R89, R133: what the forced end, with a trigger of the swap, leaves of a deposit-pure pocket with no notes committed. -/
theorem completed_swapped (h : (s.pocket k).holdsOnly c.seq = true) (hc : (s.pocket k).committed = 0)
    (hh : 0 < (s.pocket k).held) :
    (((s.drained c).completeDeposit c.seq).swapTrigger.pocket k).state
        = (if (s.pocket k).isLoose then .awaitingRemoval else .complete)
      ∧ (((s.drained c).completeDeposit c.seq).swapTrigger.pocket k).short
        = ((s.pocket k).short || decide ((s.pocket k).held < (s.pocket k).limit))
      ∧ (((s.drained c).completeDeposit c.seq).swapTrigger.pocket k).held = (s.pocket k).held
      ∧ (((s.drained c).completeDeposit c.seq).swapTrigger.pocket k).emptyEye = (s.pocket k).emptyEye := by
  have closed := completed_pocket h
  have contents := Pocket.contents_close s.tbs.active k (s.pocket k)
  rw [← closed] at contents
  rw [Pocket.close_of_held hc hh] at closed
  have unmoved : (((s.drained c).completeDeposit c.seq).pocket k).Unmoved := by
    rw [closed]
    unfold Pocket.Unmoved
    dsimp only
    split <;> simp
  obtain ⟨state, short, kept⟩ := swapTrigger_unmoved unmoved
  rw [closed] at state short
  obtain ⟨-, -, eye, -⟩ := Pocket.fields_of_contents (kept.trans contents)
  exact ⟨state, short, Pocket.held_of_contents (kept.trans contents), eye⟩

theorem completed_swapped_closing (h : (s.pocket k).holdsOnly c.seq = true) (hc : 0 < (s.pocket k).committed) :
    (((s.drained c).completeDeposit c.seq).swapTrigger.pocket k).state = .closing := by
  have closed := completed_pocket h
  rw [Pocket.close_of_committed hc] at closed
  obtain ⟨state, -, -⟩ := swapTrigger_unmoved (s := (s.drained c).completeDeposit c.seq) (k := k)
    (by simp [Pocket.Unmoved, closed])
  rw [state, closed]

/-- The end of an answered command's event leaves a pocket whose bundle has ended, unless its notes are gone from it. -/
theorem SettledFrom.ended (h : SettledFrom u t) (content : p.isLoose = true → p.emptyEye = true)
    (state : (u.pocket k).state = if p.isLoose then .awaitingRemoval else .complete)
    (eye : (u.pocket k).emptyEye = p.emptyEye) : (t.pocket k).state = (if p.isLoose then .awaitingRemoval else .complete)
      ∧ (t.pocket k).short = (u.pocket k).short ∧ (t.pocket k).held = (u.pocket k).held := by
  cases loose : p.isLoose with
  | true =>
    rw [if_pos loose] at state
    rw [h.pocket_of_still ⟨by simp [state], fun _ => .inl (eye.trans (content loose))⟩]
    exact ⟨state, rfl, rfl⟩
  | false =>
    rw [if_neg (by simp [loose])] at state
    rw [h.pocket_of_complete state]
    exact ⟨state, rfl, rfl⟩

end State

theorem actForceDepositEnd_none (h : s.activeContext = none) : actForceDepositEnd cmd s = (s, refusal .state 0) :=
  if_pos (by simp [h])

theorem actForceDepositEnd_some (h : s.activeContext = some c) :
    actForceDepositEnd cmd s = ((s.endActive .forced).swapTrigger, Answer.done) := if_neg (by simp [h])

/-- R109: the take of FORCE_DEPOSIT_END with an ACTIVE deposit. -/
theorem take_forceDepositEnd (hd : s.Due .forceDepositEnd cmd rest) (hb : cmd.broadcast = false) (hl : cmd.payload = [])
    (h : s.activeContext = some c) : ∃ t, exec .forceDepositEnd s = .next t ∧ s.Replied cmd Answer.done t
      ∧ State.SettledFrom (((s.taken rest).endActive .forced).swapTrigger) t := by
  have act := (needLength_of_nil (act := actForceDepositEnd) (n := 0) (by simp [hl]) (s.taken rest)).trans
    (actForceDepositEnd_some (s := s.taken rest) (cmd := cmd) h)
  obtain ⟨t, taken, replied, settled⟩ := take_answers hd hb act (by simp) (by simp [State.taken])
  exact ⟨t, congrArg Host.Outcome.next taken, replied, settled⟩

end Sys2Proof.Machine

section
open Sys2Proof Sys2Proof.Machine

/-- Settles O46: the ACTIVE deposit drains or completes; a completion closes the pockets that hold it alone, which neither a swap
nor the end of the event takes from CLOSING, COMPLETE or an AWAITING_REMOVAL whose content stands. -/
theorem forceDepositEnd : Obligations.ForceDepositEnd := by
  intro s q rest hs hd hb hl hn
  refine ⟨fun none => ?_, fun c active => ⟨fun hi => ?_, fun hi => ?_⟩⟩
  · exact congrArg Host.Outcome.next (take_unchanged hs hd hb ((needLength_of_nil (by simp [hl]) _).trans
      (actForceDepositEnd_none (s := s.taken rest) none)))
  · obtain ⟨t, taken, replied, settled⟩ := take_forceDepositEnd hd hb hl active
    rw [State.endActive_drains (s := s.taken rest) active hn hi] at settled
    refine ⟨t, taken, replied, settled.agrees.trans (State.swapTrigger_agrees ?_)⟩
    rw [State.drained_contexts (s := s.taken rest) active hn]
    rfl
  · obtain ⟨t, taken, replied, settled⟩ := take_forceDepositEnd hd hb hl active
    rw [State.endActive_completes (s := s.taken rest) active hn hi] at settled
    obtain ⟨completion, mem⟩ := State.completed_dpu (s := s.taken rest) active hn
    obtain ⟨-, -, -, -, triggered, -⟩ := State.swapTrigger_keeps (((s.taken rest).drained c).completeDeposit c.seq)
    have deposits := settled.deposits.trans triggered
    refine ⟨t, ⟨taken, replied, settled.agrees.trans (State.swapTrigger_agrees (State.completed_agrees c (s.taken rest)))⟩,
      by rw [deposits]; exact completion, by rw [deposits]; exact mem, fun k hp hst hlist => ?_⟩
    have only : ((s.taken rest).pocket k).holdsOnly c.seq = true := Pocket.holdsOnly_of hp hst hlist
    refine ⟨fun hc => ?_, fun hc hh => ?_⟩
    · have state := State.completed_swapped_closing only hc
      rw [settled.pocket_of_still (.of_state (by simp [state]) (by simp [state]))]
      exact state
    · obtain ⟨state, short, held, eye⟩ := State.completed_swapped only hc hh
      have ends (content : (s.pocket k).isLoose = true → (s.pocket k).emptyEye = true) :=
        settled.ended (p := s.pocket k) (k := k) content state eye
      have bundled (strapped : (s.pocket k).isStrapped = true) : (s.pocket k).isLoose = false :=
        Pocket.isLoose_of_isStrapped strapped
      refine ⟨fun h => ?_, fun strapped => ?_, fun loose he => ?_⟩
      · obtain ⟨-, kept, notes⟩ := ends fun loose => h.resolve_left fun strapped => by simp [bundled strapped] at loose
        exact ⟨kept.trans short, notes.trans held⟩
      · obtain ⟨complete, -⟩ := ends fun loose => absurd loose (by simp [bundled strapped])
        exact complete.trans (if_neg (by simp [bundled strapped]))
      · obtain ⟨removal, -⟩ := ends fun _ => he
        exact removal.trans (if_pos loose)

end

/-! SUPPORT. The stop event with an entry of a deposit that has no resolution, and the statement about the deposits' accounts. -/

namespace Sys2Proof.Machine

/- One theorem at a time: many at once exhaust the threads. -/
set_option Elab.async false

/-! ## An entry of a deposit without a resolution

`State.AccountsHold` says of an entry of a deposit that it has a destination which R113 counts, but not that it is resolved
(R30 gives an entry its resolution and its deposit together). The in-doubt conversion goes by the resolution (R152): an entry
without one leaves the queue as an untracked object, in doubt for no deposit. If such an entry belongs to a deposit, that
deposit keeps a note in transit which is no longer in the queue. -/

/-- An entry on its way to pocket 2 as a note of deposit 1, and yet without a resolution. -/
def unresolvedEntry : Entry :=
  { State.newEntry State.reset 0 false with
    state := .awaitingArrival, deposit := some 1, destination := some .hold, pocket := some pocket2 }

/-- Deposit 1 with one note assigned, which is in transit. -/
def unresolvedDeposit : Context := { Context.opening 1 none none with assigned := 1, inTransit := 1 }

/-- The line in HALT-STOPPING with its stop event due, and that entry alone in the queue. -/
def unresolvedState : State :=
  { State.reset with
    trk := { State.reset.trk with queue := [unresolvedEntry], nextSeq := 2 }
    dpu := { State.reset.dpu with contexts := [unresolvedDeposit], nextDeposit := 2 }
    lsv := { State.reset.lsv with line := .haltStopping, reason := some .command, stopRequest := true, stopScheduled := true }
    pending := [.stopEvent] }

theorem unresolved_accounts : unresolvedState.AccountsHold := by
  refine ⟨by decide, by decide, by decide, ?_, ?_⟩
  · intro e he _
    obtain rfl : e = unresolvedEntry := by simpa [unresolvedState] using he
    exact .inr (.inl rfl)
  · intro c hc
    obtain rfl : c = unresolvedDeposit := by simpa [unresolvedState] using hc
    exact ⟨by unfold Context.Balanced; decide, by decide⟩

/-- The state after the stop event. -/
def unresolvedStopped : State := (unresolvedState.withPending []).stopEvent.settle

theorem unresolved_step : step unresolvedState = .next unresolvedStopped := congrArg Host.Outcome.next (if_pos rfl)

theorem unresolved_queue : unresolvedStopped.trk.queue = [] := by decide +kernel

theorem unresolved_contexts : unresolvedStopped.dpu.contexts = [unresolvedDeposit] := by decide +kernel

end Sys2Proof.Machine

section
open Sys2Proof Sys2Proof.Machine

/-- Refutes O59: the stop event takes an unresolved entry of deposit 1 off the queue without counting it in doubt, so the
deposit is left with one note in transit and none in the queue. -/
theorem not_depositAccount : ¬ Obligations.DepositAccount := by
  intro h
  obtain ⟨-, -, kept⟩ := h
  obtain ⟨-, -, -, -, accounts⟩ := kept unresolvedState unresolvedStopped unresolved_accounts (by decide) (by decide)
    unresolved_step
  obtain ⟨-, count⟩ := accounts unresolvedDeposit (by simp [unresolved_contexts])
  rw [unresolved_queue] at count
  exact absurd count (by decide)

end

/-! SUPPORT. Decimal digits as numbers: sum, order and difference (R116, R119), and the statement about a credit. -/

namespace Sys2Proof.Machine

/- One theorem at a time: many at once exhaust the threads. -/
set_option Elab.async false

variable {as bs v : Digits} {n w : Nat}

/-! ## The number that digits stand for -/

theorem digitsValue_lt (as : Digits) : digitsValue as < 10 ^ as.length := by
  induction as with
  | nil => decide
  | cons a as ih =>
    have := a.isLt
    rw [digitsValue, List.length_cons, Nat.pow_succ]
    omega

/-- A digit computed below 10 is that number. -/
theorem val_digit (h : n < 10) : (Fin.ofNat 10 n).val = n := Nat.mod_eq_of_lt h

theorem length_digitsOfNat (w n : Nat) : (digitsOfNat w n).length = w := by
  induction w generalizing n with
  | zero => rfl
  | succ w ih => rw [digitsOfNat, List.length_cons, ih]

theorem digitsValue_digitsOfNat (h : n < 10 ^ w) : digitsValue (digitsOfNat w n) = n := by
  induction w generalizing n with
  | zero => simpa [digitsOfNat, digitsValue, eq_comm] using h
  | succ w ih =>
    have rest : n / 10 < 10 ^ w := by rw [Nat.pow_succ] at h; omega
    rw [digitsOfNat, digitsValue, ih rest, val_digit (Nat.mod_lt n (by decide))]
    exact Nat.mod_add_div n 10

/-! ## Sums (R116) -/

theorem length_addDigits (c : Nat) (h : as.length = bs.length) : (addDigits c as bs).1.length = as.length := by
  induction as generalizing bs c with
  | nil => simp [addDigits]
  | cons a as ih =>
    obtain _ | ⟨b, bs⟩ := bs
    · simp at h
    · have tails := Nat.succ.inj h
      unfold addDigits
      dsimp only
      split <;> simp [ih _ tails]

/-- R116: the digits and the carry out of the last position make up the sum. -/
theorem digitsValue_addDigits {c : Nat} (hc : c ≤ 1) (h : as.length = bs.length) :
    digitsValue (addDigits c as bs).1 + 10 ^ as.length * (addDigits c as bs).2 = digitsValue as + digitsValue bs + c := by
  induction as generalizing bs c with
  | nil =>
    obtain rfl : bs = [] := List.length_eq_zero_iff.mp h.symm
    simp [addDigits, digitsValue]
  | cons a as ih =>
    obtain _ | ⟨b, bs⟩ := bs
    · simp at h
    · have tails := Nat.succ.inj h
      have ha := a.isLt
      have hb := b.isLt
      unfold addDigits
      dsimp only
      split
      · have rest := ih (c := 1) (by decide) tails
        simp only [digitsValue, List.length_cons, Nat.pow_succ, Nat.mul_right_comm _ 10,
          val_digit (n := a.val + b.val + c - 10) (by omega)]
        omega
      · have rest := ih (c := 0) (by decide) tails
        simp only [digitsValue, List.length_cons, Nat.pow_succ, Nat.mul_right_comm _ 10,
          val_digit (n := a.val + b.val + c) (by omega)]
        omega

/-! ## A credit -/

theorem creditValue_saturated (v : Digits) (face : Nat) : creditValue v true face = (v, true) := rfl

theorem creditValue_fits {face : Nat} (h : (addDigits 0 v (digitsOfNat 14 face)).2 = 0) :
    creditValue v false face = ((addDigits 0 v (digitsOfNat 14 face)).1, false) := by
  simp [creditValue, h]

theorem creditValue_passes {face : Nat} (h : (addDigits 0 v (digitsOfNat 14 face)).2 ≠ 0) :
    creditValue v false face = (maxValue, true) := by
  simp [creditValue, h]

theorem digitsValue_maxValue : digitsValue maxValue = 99999999999999 := by decide

end Sys2Proof.Machine

section
open Sys2Proof Sys2Proof.Machine

/-- Settles O57: the fourteen digits of the sum and the carry out of them make up the true sum, so the carry says whether the
sum passes the maximum. -/
theorem creditAdds : Obligations.CreditAdds := by
  intro v face hv hf
  refine ⟨?_, creditValue_saturated v face⟩
  have lengths : v.length = (digitsOfNat 14 face).length := by rw [hv, length_digitsOfNat]
  have sum := digitsValue_addDigits (c := 0) (by decide) lengths
  have length := length_addDigits 0 lengths
  have below := digitsValue_lt (addDigits 0 v (digitsOfNat 14 face)).1
  rw [digitsValue_digitsOfNat (by omega), hv] at sum
  rw [length, hv] at below
  by_cases carry : (addDigits 0 v (digitsOfNat 14 face)).2 = 0
  · rw [creditValue_fits carry]
    rw [carry] at sum
    exact ⟨by dsimp only; omega, by simp; omega, length.trans hv⟩
  · rw [creditValue_passes carry]
    exact ⟨by dsimp only; rw [digitsValue_maxValue]; omega, by simp; omega, rfl⟩

end

/-! SUPPORT. The order and the difference of decimal digits (R119), the bits of the qualifier set (R120), and the statement about
a deposit's outcome. -/

namespace Sys2Proof.Machine

/- One theorem at a time: many at once exhaust the threads. -/
set_option Elab.async false

variable {as bs : Digits} {c : Context} {d : Declaration}

/-! ## Order and difference (R119) -/

theorem compareDigits_eq (h : as.length = bs.length) : compareDigits as bs = compare (digitsValue as) (digitsValue bs) := by
  induction as generalizing bs with
  | nil =>
    obtain rfl : bs = [] := List.length_eq_zero_iff.mp h.symm
    rfl
  | cons a as ih =>
    obtain _ | ⟨b, bs⟩ := bs
    · simp at h
    · have ha := a.isLt
      have hb := b.isLt
      simp only [compareDigits, ih (Nat.succ.inj h), digitsValue]
      rcases lt_trichotomy (digitsValue as) (digitsValue bs) with lt | eq | gt
      · have whole : a.val + 10 * digitsValue as < b.val + 10 * digitsValue bs := by omega
        rw [Nat.compare_eq_lt.mpr lt, Nat.compare_eq_lt.mpr whole]
      · rw [Nat.compare_eq_eq.mpr eq, eq, Nat.compare_eq_ite_lt, Nat.compare_eq_ite_lt]
        simp only [Nat.add_lt_add_iff_right]
      · have whole : b.val + 10 * digitsValue bs < a.val + 10 * digitsValue as := by omega
        rw [Nat.compare_eq_gt.mpr gt, Nat.compare_eq_gt.mpr whole]

theorem length_subDigits (borrow : Nat) (h : as.length = bs.length) : (subDigits borrow as bs).length = as.length := by
  induction as generalizing bs borrow with
  | nil => simp [subDigits]
  | cons a as ih =>
    obtain _ | ⟨b, bs⟩ := bs
    · simp at h
    · have tails := Nat.succ.inj h
      unfold subDigits
      split <;> simp [ih _ tails]

theorem digitsValue_subDigits {borrow : Nat} (hw : borrow ≤ 1) (h : as.length = bs.length)
    (hle : digitsValue bs + borrow ≤ digitsValue as) :
    digitsValue (subDigits borrow as bs) = digitsValue as - (digitsValue bs + borrow) := by
  induction as generalizing bs borrow with
  | nil =>
    obtain rfl : bs = [] := List.length_eq_zero_iff.mp h.symm
    simp [subDigits, digitsValue]
  | cons a as ih =>
    obtain _ | ⟨b, bs⟩ := bs
    · simp at h
    · have tails := Nat.succ.inj h
      have ha := a.isLt
      have hb := b.isLt
      simp only [digitsValue] at hle ⊢
      unfold subDigits
      split
      · rw [digitsValue, ih (borrow := 1) (by decide) tails (by omega), val_digit (by omega)]
        omega
      · rw [digitsValue, ih (borrow := 0) (by decide) tails (by omega), val_digit (by omega)]
        omega

/-! ## The outcome by Table 6-5 -/

namespace Context

theorem outcome_saturated (h : c.valueSaturated = true) : c.outcome = (.saturated, zeroValue) := by
  simp [outcome, h]

section Unsaturated

variable (hv : c.valueSaturated = false)
include hv

theorem outcome_undeclared (hd : c.declaration = none) : c.outcome = (.undeclared, zeroValue) := by
  simp [outcome, hv, hd]

variable (hd : c.declaration = some d) (hl : c.value.length = d.value.length)
include hd hl

theorem outcome_declared : c.outcome = match compare (digitsValue c.value) (digitsValue d.value) with
    | .eq => (.balanced, zeroValue)
    | .gt => (.over, subDigits 0 c.value d.value)
    | .lt => (.short, subDigits 0 d.value c.value) := by
  simp only [outcome, hv, hd, compareDigits_eq hl]
  rfl

theorem outcome_balanced (h : digitsValue c.value = digitsValue d.value) : c.outcome = (.balanced, zeroValue) := by
  rw [outcome_declared hv hd hl, Nat.compare_eq_eq.mpr h]

theorem outcome_over (h : digitsValue d.value < digitsValue c.value) :
    c.outcome = (.over, subDigits 0 c.value d.value) := by
  rw [outcome_declared hv hd hl, Nat.compare_eq_gt.mpr h]

theorem outcome_short (h : digitsValue c.value < digitsValue d.value) :
    c.outcome = (.short, subDigits 0 d.value c.value) := by
  rw [outcome_declared hv hd hl, Nat.compare_eq_lt.mpr h]

end Unsaturated

/-! ## The qualifiers (R120) -/

theorem any_rejects_iff (c : Context) :
    c.rejects.toList.any (fun n => decide (0 < n)) = true ↔ ∃ i : Fin 13, 0 < c.rejects[i] := by
  simp only [List.any_eq_true, decide_eq_true_eq, Vector.mem_toList_iff, Vector.mem_iff_getElem]
  constructor
  · rintro ⟨n, ⟨i, hi, rfl⟩, hn⟩
    exact ⟨⟨i, hi⟩, hn⟩
  · rintro ⟨i, hn⟩
    exact ⟨_, ⟨i, i.isLt, rfl⟩, hn⟩

theorem countMismatch_iff (c : Context) : c.countMismatch = true ↔
    ∃ d i n, c.declaration = some d ∧ (i, n) ∈ d.counts ∧ n ≠ c.credited[(i : Fin 16)] := by
  unfold countMismatch
  cases c.declaration <;> simp

end Context

theorem setHas_setBit {w j : Nat} (h : j < w) (k : Nat) (b : Bool) : setHas (setBit w k b) j = (b && decide (k = j)) := by
  cases b
  · simp [setBit, setHas]
  · simp [setBit, setHas, h, eq_comm]

/-- Bit `j` of the qualifier set is the condition of code `j`. -/
theorem setHas_qualifiers {j : Nat} (h : j < 8) (c : Context) : setHas c.qualifiers j =
    [decide (0 < c.held), decide (0 < c.inDoubt), c.rejects.toList.any (fun n => decide (0 < n)), c.countMismatch,
      c.countSaturated, decide (c.endKind = some .forced), decide (c.endKind = some .aborted), false][j] := by
  have union (v w : BitVec 8) : setHas (v ||| w) j = (setHas v j || setHas w j) := BitVec.getLsbD_or
  simp only [Context.qualifiers, union, setHas_setBit h]
  interval_cases j <;> simp

end Sys2Proof.Machine

section
open Sys2Proof Sys2Proof.Machine

/-- Settles O58: by the line of Table 6-5 that applies, with the digits compared and subtracted as the numbers they stand for;
and each qualifier is the condition of its bit. -/
theorem depositOutcome : Obligations.DepositOutcome := by
  refine ⟨fun c hc => ⟨fun hd => ?_, fun d hd => ?_, Context.outcome_saturated, Context.outcome_undeclared,
    fun d hv hd hl => ?_⟩, fun c => ?_⟩
  · rw [Context.declaredValue, hd]
  · rw [Context.declaredValue, hd]
  · have lengths : c.value.length = d.value.length := hc.trans hl.symm
    refine ⟨Context.outcome_balanced hv hd lengths, fun above => ?_, fun below => ?_⟩
    · rw [Context.outcome_over hv hd lengths above]
      exact ⟨rfl, digitsValue_subDigits (by decide) lengths above.le, (length_subDigits 0 lengths).trans hc⟩
    · rw [Context.outcome_short hv hd lengths below]
      exact ⟨rfl, digitsValue_subDigits (by decide) lengths.symm below.le, (length_subDigits 0 lengths.symm).trans hl⟩
  · have bit (j : Fin 8) := Bool.eq_iff_iff.mp (setHas_qualifiers j.isLt c)
    exact ⟨(bit 0).trans decide_eq_true_iff, (bit 1).trans decide_eq_true_iff, (bit 2).trans c.any_rejects_iff,
      (bit 3).trans c.countMismatch_iff, bit 4, (bit 5).trans decide_eq_true_iff, (bit 6).trans decide_eq_true_iff,
      setHas_qualifiers (j := 7) (by decide) c⟩

end

/-! SUPPORT. The tests of DECLARE in the order of Table 6-4, and the statement about DECLARE and WITHDRAW. -/

namespace Sys2Proof.Machine

/- One theorem at a time: many at once exhaust the threads. -/
set_option Elab.async false

variable {s : State} {q : QueuedCommand} {rest : List QueuedCommand} {p : List Byte} {card : Nat} {row : Instr} {act : Act}

/-! ## The tests -/

/-- The declared-count pairs of a DECLARE payload. -/
def payloadPairs (p : List Byte) : List (Nat × Nat) := declaredPairs p (count8At p 11) 12

/-- R103: the range tests, as Table 6-4 words them. -/
def DeclareInRange (p : List Byte) : Prop :=
  1 ≤ number32At p 0 ∧ number32At p 0 ≤ 99999999 ∧ (∀ d ∈ payloadPairs p, d.1 ≤ 15)
    ∧ ((payloadPairs p).map Prod.fst).Nodup

theorem declareInRange_iff (p : List Byte) : declareInRange p = true ↔ DeclareInRange p := by
  simp [declareInRange, DeclareInRange, pairsOk, payloadPairs, and_assoc]

theorem State.declared_iff (card : Nat) (s : State) : s.declared card = true ↔ ∃ d ∈ s.dpu.declarations, d.card = card := by
  simp [State.declared]

theorem State.cardOpen_iff (card : Nat) (s : State) : s.cardOpen card = true ↔ ∃ c ∈ s.dpu.contexts, c.card = some card := by
  simp [State.cardOpen]

/-! ## DECLARE -/

theorem actDeclare_badLength (hl : declareLengthOk q.payload = false) : actDeclare q s = (s, refusal .badLength 0) :=
  if_pos (by simp [hl])

section WellFormed

variable (hl : declareLengthOk q.payload = true)
include hl

theorem actDeclare_badDigit (hd : digitsValid (declaredValueBytes q.payload) = false) :
    actDeclare q s = (s, refusal .badDigit 0) := by
  simp only [actDeclare, hl, hd]
  rfl

variable (hd : digitsValid (declaredValueBytes q.payload) = true)
include hd

theorem actDeclare_badIndex (hr : ¬ DeclareInRange q.payload) : actDeclare q s = (s, refusal .badIndex 0) := by
  rw [← declareInRange_iff, Bool.not_eq_true] at hr
  simp only [actDeclare, hl, hd, hr]
  rfl

variable (hr : DeclareInRange q.payload)
include hr

/-- R103: what is left of the tests once the payload has passed its own. -/
theorem actDeclare_inRange : actDeclare q s =
    if s.declared (number32At q.payload 0) then (s, refusal .duplicateCard 0)
    else if s.cardOpen (number32At q.payload 0) then (s, refusal .cardOpen 0)
    else if 8 ≤ s.dpu.declarations.length then (s, refusal .listFull 0)
    else ({ s with dpu := { s.dpu with declarations := s.dpu.declarations ++ [declarationOf q.payload] } }, Answer.done) := by
  simp only [actDeclare, hl, hd, (declareInRange_iff _).mpr hr]
  rfl

theorem actDeclare_duplicate (h : ∃ d ∈ s.dpu.declarations, d.card = number32At q.payload 0) :
    actDeclare q s = (s, refusal .duplicateCard 0) := by
  rw [actDeclare_inRange hl hd hr, if_pos ((s.declared_iff _).mpr h)]

variable (hn : ∀ d ∈ s.dpu.declarations, d.card ≠ number32At q.payload 0)
include hn

theorem actDeclare_cardOpen (h : ∃ c ∈ s.dpu.contexts, c.card = some (number32At q.payload 0)) :
    actDeclare q s = (s, refusal .cardOpen 0) := by
  rw [actDeclare_inRange hl hd hr, if_neg (by simpa [s.declared_iff] using hn), if_pos ((s.cardOpen_iff _).mpr h)]

variable (ho : ∀ c ∈ s.dpu.contexts, c.card ≠ some (number32At q.payload 0))
include ho

theorem actDeclare_newCard : actDeclare q s =
    if 8 ≤ s.dpu.declarations.length then (s, refusal .listFull 0)
    else ({ s with dpu := { s.dpu with declarations := s.dpu.declarations ++ [declarationOf q.payload] } }, Answer.done) := by
  rw [actDeclare_inRange hl hd hr, if_neg (by simpa [s.declared_iff] using hn),
    if_neg (by simpa [s.cardOpen_iff] using ho)]

end WellFormed

/-! ## WITHDRAW -/

theorem actWithdraw_unknown (h : ∀ d ∈ s.dpu.declarations, d.card ≠ number32At q.payload 0) :
    actWithdraw q s = (s, refusal .unknownCard 0) := if_neg (by simpa [s.declared_iff] using h)

theorem actWithdraw_known (h : ∃ d ∈ s.dpu.declarations, d.card = number32At q.payload 0) : actWithdraw q s =
    ({ s with dpu := { s.dpu with
      declarations := s.dpu.declarations.filter (fun d => d.card != number32At q.payload 0) } }, Answer.done) :=
  if_pos ((s.declared_iff _).mpr h)

/-! ## Their takes -/

/-- A declaration list is nothing that an event's end waits for. -/
theorem State.Quiet.withDeclarations (h : s.Quiet) (l : List Declaration) :
    State.Quiet { s with dpu := { s.dpu with declarations := l } } := h

theorem take_declarations (hs : s.Quiet) (hd : s.Due row q rest) (hb : q.broadcast = false) {l : List Declaration}
    (ha : act q (s.taken rest) =
      ({ s.taken rest with dpu := { (s.taken rest).dpu with declarations := l } }, Answer.done)) :
    s.takeCommand row act = State.concluded q rest Answer.done { s with dpu := { s.dpu with declarations := l } } :=
  take_concluded hd hb ha (hs.withDeclarations l)

end Sys2Proof.Machine

section
open Sys2Proof Sys2Proof.Machine

/-- Settles O45: the tests of DECLARE in their order, and the one of WITHDRAW; a quiet state stays quiet under another
declaration list, so each take is the command's own effect and its conclusion. -/
theorem declarations : Obligations.Declarations := by
  rintro s q rest card hs hb rfl
  refine ⟨fun due => ?_, fun due hlen => ?_⟩
  · have refused {c : RefusalCode} (ha : actDeclare q (s.taken rest) = (s.taken rest, refusal c 0)) :
        exec .declare s = .next (s.concluded q rest (refusal c 0)) :=
      congrArg Host.Outcome.next (take_unchanged hs due hb ha)
    refine ⟨fun hl => refused (actDeclare_badLength hl), fun hl => ⟨fun hd => refused (actDeclare_badDigit hl hd),
      fun hd => ⟨fun hr => refused (actDeclare_badIndex hl hd hr), fun low high indices distinct => ?_⟩⟩⟩
    have hr : DeclareInRange q.payload := ⟨low, high, indices, distinct⟩
    refine ⟨fun h => refused (actDeclare_duplicate hl hd hr h), fun hn =>
      ⟨fun h => refused (actDeclare_cardOpen hl hd hr hn h), fun ho => ?_⟩⟩
    have left := actDeclare_newCard (s := s.taken rest) hl hd hr hn ho
    refine ⟨fun full => refused (left.trans (if_pos full)), fun room => ?_⟩
    exact congrArg Host.Outcome.next (take_declarations hs due hb (left.trans (if_neg (Nat.not_le.mpr room))))
  · have four (u : State) : needLength 4 actWithdraw q u = actWithdraw q u := needLength_of_nil hlen u
    refine ⟨fun h => ?_, fun h => ?_⟩
    · exact congrArg Host.Outcome.next
        (take_unchanged hs due hb ((four _).trans (actWithdraw_unknown (s := s.taken rest) h)))
    · exact congrArg Host.Outcome.next
        (take_declarations hs due hb ((four _).trans (actWithdraw_known (s := s.taken rest) h)))

end

/-! SUPPORT. The deposit boundary of a separator card (R105 to R108), and the statement about it. -/

namespace Sys2Proof.Machine

/- One theorem at a time: many at once exhaust the threads. -/
set_option Elab.async false

variable {s : State} {c : Context} {kind : EndKind} {card : Option Nat}

/-! ## The end of the ACTIVE deposit (R108) -/

/-- R108: a context that enters DRAINING; `gen` is the active generation. -/
def Context.draining (kind : EndKind) (gen : Nat) (c : Context) : Context :=
  { c with state := .draining, endKind := some kind, closeGen := some gen }

namespace State

/-- R108: the deposit of `c` drains. -/
def draining (kind : EndKind) (c : Context) (s : State) : State :=
  { s with dpu := { s.dpu with
      contexts := s.dpu.contexts.map (fun x => if x.seq = c.seq then x.draining kind s.tbs.generation else x) } }

theorem endActive_none (h : s.activeContext = none) : s.endActive kind = s := by
  rw [endActive, h]

theorem updateContext_draining (h : s.activeContext = some c) (hn : (s.dpu.contexts.map Context.seq).Nodup) :
    s.updateContext c.seq (Context.draining kind s.tbs.generation) = s.draining kind c := by
  obtain ⟨mem, active⟩ := mem_of_activeContext h
  have same : s.dpu.contexts.map (fun x => if x.counting = true ∧ x.seq = c.seq then x.draining kind s.tbs.generation else x)
      = s.dpu.contexts.map (fun x => if x.seq = c.seq then x.draining kind s.tbs.generation else x) := by
    refine List.map_congr_left fun x hx => if_congr (and_iff_right_of_imp fun hs => ?_) rfl rfl
    obtain rfl := eq_of_seq_eq hn hx mem hs
    exact counting_of_active active
  unfold updateContext draining
  rw [same]

/-- R110: a deposit with notes in transit does not complete as it enters DRAINING. -/
theorem completionTest_draining (h : s.activeContext = some c) (hn : (s.dpu.contexts.map Context.seq).Nodup)
    (hi : 0 < c.inTransit) : (s.draining kind c).completionTest c.seq = s.draining kind c := by
  unfold completionTest
  split
  · next x found =>
    refine if_neg fun ended => hi.ne' ?_
    obtain ⟨mem, -, seq⟩ := of_countingContext found
    obtain ⟨y, hy, rfl⟩ := List.mem_map.mp mem
    have same : y.seq = c.seq := by
      split at seq <;> exact seq
    obtain rfl := eq_of_seq_eq hn hy (mem_of_activeContext h).1 same
    rw [if_pos rfl] at ended
    exact ended.2
  · rfl

theorem endActive_draining (h : s.activeContext = some c) (hn : (s.dpu.contexts.map Context.seq).Nodup)
    (hi : 0 < c.inTransit) : s.endActive kind = s.draining kind c := by
  rw [← completionTest_draining h hn hi, ← updateContext_draining h hn, endActive, h]
  rfl

@[simp] theorem draining_length (kind : EndKind) (c : Context) (s : State) :
    (s.draining kind c).dpu.contexts.length = s.dpu.contexts.length := List.length_map _

/-! ## The opening of a context (R105) -/

/-- R105 steps 3 and 4: the declaration leaves the list with its card, and the deposit sequence advances. -/
theorem openContext_dpu (card : Option Nat) (s : State) : (s.openContext card).dpu = { s.dpu with
    contexts := s.dpu.contexts ++ [Context.opened s.dpu.nextDeposit card (s.declarationFor card)]
    nextDeposit := if s.dpu.nextDeposit < 65535 then s.dpu.nextDeposit + 1 else 1
    declarations := s.dpu.declarations.filter (fun d => some d.card != card) } := by
  rw [← next16_eq]
  unfold openContext
  dsimp only
  split <;> split <;> rfl

theorem openContext_keeps (card : Option Nat) (s : State) : (s.openContext card).trk = s.trk
    ∧ (s.openContext card).tbs = s.tbs ∧ (s.openContext card).pkm = s.pkm
    ∧ (s.openContext card).lsv.line = s.lsv.line := by
  unfold openContext
  dsimp only
  split <;> split <;> exact ⟨rfl, rfl, rfl, rfl⟩

theorem openContext_undeclared (h : s.declarationFor card = none) :
    (s.openContext card).pendingHas .declarationMissing = true := by
  unfold openContext
  dsimp only
  rw [if_pos (by simp [h])]
  exact pendingHas_raise_self _ _

/-- R101: the fourth context in use is a shortage. -/
theorem openContext_fourth (h : s.dpu.contexts.length = 3) : (s.openContext card).held .contextShortage = true
    ∧ (s.openContext card).pendingHas .contextShortage = true := by
  unfold openContext
  dsimp only
  split <;> rw [if_pos (by simp [h])]
  · exact ⟨held_hold_self .contextShortage _, pendingHas_raise (pendingHas_raise_self _ _) _⟩
  · exact ⟨held_hold_self .contextShortage _, pendingHas_raise_self _ _⟩

/-! ## The boundary -/

theorem boundary_of_card {field : CardField}
    (h : (field = .unreadable ∧ card = none) ∨ ∃ n, field = .number (n + 1) ∧ card = some (n + 1)) :
    s.boundary field = s.cardBoundary card := by
  rcases h with ⟨rfl, rfl⟩ | ⟨n, rfl, rfl⟩ <;> rfl

end State
end Sys2Proof.Machine

section
open Sys2Proof Sys2Proof.Machine

/-- Settles O47: the ACTIVE deposit drains without completing, which leaves the number of contexts; and a card other than an end
card opens a context in a FREE one or gives the halt cause. -/
theorem cardBoundary : Obligations.CardBoundary := by
  intro s ended card field hn idle drained busy
  have ends : s.endActive (if field = .number 0 then .endCard else .card) = ended
      ∧ ended.dpu.contexts.length = s.dpu.contexts.length
      ∧ ended = { s with dpu := { s.dpu with contexts := ended.dpu.contexts } } := by
    cases active : s.activeContext with
    | none =>
      rw [idle active, State.endActive_none active]
      exact ⟨rfl, rfl, rfl⟩
    | some c =>
      have drains := State.endActive_draining (kind := if field = .number 0 then .endCard else .card) active hn (busy c active)
      rw [drains, drained c _ active (busy c active) rfl]
      exact ⟨rfl, List.length_map _, rfl⟩
  obtain ⟨ends, length, kept⟩ := ends
  refine ⟨fun hf => ?_, fun hc => ?_⟩
  · subst hf
    exact ends
  · have other : field ≠ .number 0 := by
      rcases hc with ⟨rfl, -⟩ | ⟨n, rfl, -⟩ <;> simp
    rw [if_neg other] at ends
    rw [State.boundary_of_card hc, State.cardBoundary, ends, length]
    refine ⟨fun full => if_neg (Nat.not_lt.mpr full), fun room found hfound => ?_⟩
    rw [if_pos room]
    have same : ended.declarationFor card = found := by rw [hfound, kept]; rfl
    obtain ⟨trk, tbs, pkm, line⟩ := State.openContext_keeps card ended
    refine ⟨?_, fun missing => State.openContext_undeclared (same.trans missing),
      fun three => State.openContext_fourth (length.trans three), trk.trans (by rw [kept]), tbs.trans (by rw [kept]),
      pkm.trans (by rw [kept]), line.trans (by rw [kept])⟩
    rw [State.openContext_dpu, same, kept]

end

/-! SUPPORT. The tests of LOAD_TABLE (R127), and the statement about it. -/

namespace Sys2Proof.Machine

/- One theorem at a time: many at once exhaust the threads. -/
set_option Elab.async false

/-! ## LOAD_TABLE's tests (R127) -/

variable {s u : State} {q : QueuedCommand} {rest : List QueuedCommand} {kind first count : Byte} {entries p : List Byte}

theorem loadLengthOk_short (h : p.length < 3) : loadLengthOk p = false := by
  have short : ¬ 3 ≤ p.length := Nat.not_le.mpr h
  simp [loadLengthOk, short]

/-- R193: the length that a payload states by its kind and its count, where the kind names a table. -/
theorem loadLengthOk_iff : loadLengthOk (kind :: first :: count :: entries) = true ↔
    ∀ size, entrySize kind.toNat = some size → entries.length = count.toNat * size := by
  have kindAt : count8At (kind :: first :: count :: entries) 0 = kind.toNat := rfl
  have countAt : count8At (kind :: first :: count :: entries) 2 = count.toNat := rfl
  rw [loadLengthOk, kindAt, countAt]
  cases entrySize kind.toNat with
  | none => simp
  | some size =>
    simp only [List.length_cons, Option.some.injEq, forall_eq', Bool.and_eq_true, decide_eq_true_eq]
    omega

theorem tableBase_eq (kind : Byte) : tableBase kind.toNat = if kind = 3 then 1 else 0 := by
  have three : kind.toNat = 3 ↔ kind = 3 := BitVec.toNat_inj (y := 3)
  simp only [tableBase, three]

theorem loadInRange_iff : loadInRange (kind :: first :: count :: entries) = true ↔
    entrySize kind.toNat ≠ none ∧ count ≠ 0 ∧ tableBase kind.toNat ≤ first.toNat
      ∧ first.toNat + count.toNat - 1 < tableBase kind.toNat + tableSize kind.toNat := by
  have named : 1 ≤ count.toNat ↔ count ≠ 0 := by
    rw [Nat.one_le_iff_ne_zero]
    exact not_congr (BitVec.toNat_inj (y := 0))
  have range : loadInRange (kind :: first :: count :: entries) = ((entrySize kind.toNat).isSome
    && decide (1 ≤ count.toNat) && decide (tableBase kind.toNat ≤ first.toNat)
    && decide (first.toNat + count.toNat - 1 < tableBase kind.toNat + tableSize kind.toNat)) := rfl
  simp only [range, Bool.and_eq_true, decide_eq_true_eq, Option.isSome_iff_ne_none, named, and_assoc]

theorem actLoadTable_badLength (h : loadLengthOk q.payload = false) : actLoadTable q s = (s, refusal .badLength 0) :=
  if_pos (by simp [h])

theorem actLoadTable_swapPending (hl : loadLengthOk q.payload = true) (hp : s.tbs.swapPending = true) :
    actLoadTable q s = (s, refusal .swapPending 0) := by
  rw [actLoadTable, if_neg (by simp [hl]), if_pos hp]
  rfl

theorem actLoadTable_badIndex (hl : loadLengthOk q.payload = true) (hp : s.tbs.swapPending = false)
    (hr : loadInRange q.payload = false) : actLoadTable q s = (s, refusal .badIndex 0) := by
  rw [actLoadTable, if_neg (by simp [hl]), if_neg (by simp [hp]), if_pos (by simp [hr])]
  rfl

theorem actLoadTable_loads (hl : loadLengthOk q.payload = true) (hp : s.tbs.swapPending = false)
    (hr : loadInRange q.payload = true) : actLoadTable q s =
    ({ s with tbs := { s.tbs with shadow := loadBank s.tbs.shadow q.payload } }, Answer.done) := by
  rw [actLoadTable, if_neg (by simp [hl]), if_neg (by simp [hp]), if_neg (by simp [hr])]
  rfl

end Sys2Proof.Machine

section
open Sys2Proof Sys2Proof.Machine

/-- Settles O39: the tests in their order, each refusal leaving a quiet state; the shadow bank is nothing that the end of an
event looks at. -/
theorem loadTable : Obligations.LoadTable := by
  intro s q rest hs hd hb
  have refused {c : RefusalCode} (ha : actLoadTable q (s.taken rest) = (s.taken rest, refusal c 0)) :
      exec .loadTable s = .next (s.concluded q rest (refusal c 0)) :=
    congrArg Host.Outcome.next (take_unchanged hs hd hb ha)
  refine ⟨fun short => refused (actLoadTable_badLength (loadLengthOk_short short)),
    fun kind first count entries payload base hbase => ⟨fun size hsize wrong => ?_, fun right => ?_⟩⟩
  · refine refused (actLoadTable_badLength (Bool.eq_false_iff.mpr fun ok => wrong ?_))
    rw [payload, loadLengthOk_iff] at ok
    exact ok size hsize
  · have hl : loadLengthOk q.payload = true := by rw [payload, loadLengthOk_iff]; exact right
    have range := loadInRange_iff (kind := kind) (first := first) (count := count) (entries := entries)
    rw [← payload, tableBase_eq, ← hbase] at range
    refine ⟨fun hp => refused (actLoadTable_swapPending (s := s.taken rest) hl hp), fun hp => ⟨fun bad => ?_,
      fun table named low high => ?_⟩⟩
    · refine refused (actLoadTable_badIndex (s := s.taken rest) hl hp (Bool.eq_false_iff.mpr fun ok => ?_))
      obtain ⟨table, named, low, high⟩ := range.mp ok
      rcases bad with h | h | h | h
      · exact table h
      · exact named h
      · exact absurd low (Nat.not_le.mpr h)
      · exact absurd high (Nat.not_lt.mpr h)
    · have positive : 0 < count.toNat := Nat.pos_of_ne_zero fun h => named (BitVec.eq_of_toNat_eq h)
      have loads := actLoadTable_loads (s := s.taken rest) hl hp (range.mpr ⟨table, named, low, by omega⟩)
      have quiet : State.Quiet { s with tbs := { s.tbs with shadow := loadBank s.tbs.shadow q.payload } } := hs
      exact congrArg Host.Outcome.next (take_concluded hd hb loads quiet)

end

/-! SUPPORT. The entries that LOAD_TABLE writes, as Table 7-3 adjusts them, and the statement about them. -/

namespace Sys2Proof.Machine

/- One theorem at a time: many at once exhaust the threads. -/
set_option Elab.async false

/-! ## Entries written one after the other (R127) -/

theorem getElem_loadEntries {α : Type} {n : Nat} (read : Nat → α) (size count i o : Nat) (v : Vector α n) (j : Nat)
    (hj : j < n) : (loadEntries read size count i o v)[j] =
      if i ≤ j ∧ j < i + count then read (o + size * (j - i)) else v[j] := by
  induction count generalizing i o v with
  | zero => rw [loadEntries, if_neg (by omega)]
  | succ count ih =>
    rw [loadEntries, ih, Vector.getElem_setIfInBounds]
    by_cases at_i : i = j
    · subst at_i
      rw [if_neg (by omega), if_pos rfl, if_pos (by omega), Nat.sub_self, Nat.mul_zero, Nat.add_zero]
    · rw [if_neg at_i]
      by_cases inside : i + 1 ≤ j ∧ j < i + 1 + count
      · have next : j - i = j - (i + 1) + 1 := by omega
        rw [if_pos inside, if_pos (by omega), next, Nat.mul_succ, Nat.add_assoc, Nat.add_comm size]
      · rw [if_neg inside, if_neg (by omega)]

/-! ## Adjusted entries (R128, Table 7-3) -/

theorem clamp_bounds {lo hi : Nat} (h : lo ≤ hi) (n : Nat) : lo ≤ clamp lo hi n ∧ clamp lo hi n ≤ hi := by
  unfold clamp
  split
  · omega
  · split <;> omega

/-- A pocket list as R128 leaves it: each pocket once, and none of pockets 1 and 2. -/
def IsPocketList (l : List PocketNo) : Prop := l.Nodup ∧ ∀ k ∈ l, 2 ≤ k.val

theorem IsPocketList.append {l : List PocketNo} {k : PocketNo} (h : IsPocketList l) (hk : 2 ≤ k.val) (new : k ∉ l) :
    IsPocketList (l ++ [k]) := by
  obtain ⟨distinct, sorts⟩ := h
  refine ⟨List.nodup_append.mpr ⟨distinct, List.nodup_singleton k, fun a ha b hb => ?_⟩, fun j hj => ?_⟩
  · rw [List.mem_singleton.mp hb]
    exact fun e => new (e ▸ ha)
  · rcases List.mem_append.mp hj with old | last
    · exact sorts j old
    · rwa [List.mem_singleton.mp last]

theorem isPocketList_listedPockets (bs : List Byte) {acc : List PocketNo} (h : IsPocketList acc) :
    IsPocketList (listedPockets bs acc) := by
  induction bs generalizing acc with
  | nil => exact h
  | cons b bs ih =>
    rw [listedPockets]
    split
    · split
      · next k _ keep => exact ih (h.append keep.1 keep.2)
      · exact ih h
    · exact ih h

theorem isPocketList_classEntry (p : List Byte) (o : Nat) : IsPocketList (classEntry p o).pockets :=
  isPocketList_listedPockets _ ⟨List.nodup_nil, nofun⟩

end Sys2Proof.Machine

section
open Sys2Proof Sys2Proof.Machine

/-- Settles O40: the payload's kind selects the table, whose entries are written one after the other. -/
theorem loadedEntries : Obligations.LoadedEntries := by
  rintro b first count entries p kind rfl
  refine ⟨?_, ?_, ?_, ?_, ?_, fun o => ?_⟩
  · rintro rfl
    exact ⟨rfl, fun j => getElem_loadEntries _ 5 _ _ 3 _ j.val j.isLt⟩
  · rintro rfl
    exact ⟨rfl, fun j => getElem_loadEntries _ 7 _ _ 3 _ j.val j.isLt⟩
  · rintro rfl
    exact ⟨rfl, fun j => getElem_loadEntries _ 6 _ _ 3 _ j.val j.isLt⟩
  · rintro rfl one
    have place (k : Nat) : (first.toNat - 1 ≤ k ∧ k < first.toNat - 1 + count.toNat)
        ↔ (first.toNat ≤ k + 1 ∧ k + 1 < first.toNat + count.toNat) := by omega
    have offset (k : Nat) : k - (first.toNat - 1) = k + 1 - first.toNat := by omega
    refine ⟨rfl, fun k => (getElem_loadEntries _ 3 count.toNat (first.toNat - 1) 3 _ k.val k.isLt).trans ?_⟩
    simp only [place, offset]
    rfl
  · rintro rfl
    exact ⟨rfl, fun j => getElem_loadEntries _ 17 _ _ 3 _ j.val j.isLt⟩
  · generalize kind :: first :: count :: entries = p
    obtain ⟨distinct, sorts⟩ := isPocketList_classEntry p o
    obtain ⟨faceLow, faceHigh⟩ := clamp_bounds (lo := 1) (hi := 99999999) (by decide) (number32At p (o + 1))
    obtain ⟨capacityLow, capacityHigh⟩ := clamp_bounds (lo := 1) (hi := 500) (by decide) (number16At p o)
    exact ⟨faceLow, faceHigh, Nat.min_le_right _ 250, distinct, sorts, capacityLow, capacityHigh, Nat.min_le_right _ 31⟩

end

/-! SUPPORT. COPY_ACTIVE_TO_SHADOW and CANCEL_COMMIT, and the statement about them. -/

namespace Sys2Proof.Machine

/- One theorem at a time: many at once exhaust the threads. -/
set_option Elab.async false

variable {s : State} {q : QueuedCommand}

/-! ## COPY_ACTIVE_TO_SHADOW and CANCEL_COMMIT (R129, R134) -/

theorem actCopy_swapPending (h : s.tbs.swapPending = true) : actCopy q s = (s, refusal .swapPending 0) := if_pos h

theorem actCopy_standby (hp : s.tbs.swapPending = false) (hl : s.lsv.line = .standby) :
    actCopy q s = (s, refusal .state 0) := by
  rw [actCopy, if_neg (by simp [hp]), if_pos hl]
  rfl

theorem actCopy_copies (hp : s.tbs.swapPending = false) (hl : s.lsv.line ≠ .standby) :
    actCopy q s = ({ s with tbs := { s.tbs with shadow := s.tbs.active } }, Answer.done) := by
  rw [actCopy, if_neg (by simp [hp]), if_neg hl]
  rfl

theorem actCancel_refused (h : s.tbs.swapPending = false) : actCancel q s = (s, refusal .state 0) := if_neg (by simp [h])

theorem actCancel_cancels (h : s.tbs.swapPending = true) :
    actCancel q s = ({ s with tbs := { s.tbs with swapPending := false } }, Answer.done) := if_pos h

end Sys2Proof.Machine

section
open Sys2Proof Sys2Proof.Machine

/-- Settles O41: each command by its tests; neither the shadow bank nor the marker is anything that the end of an event looks at. -/
theorem copyAndCancel : Obligations.CopyAndCancel := by
  intro s q rest hs hb hl
  have empty (act : Act) (u : State) : needLength 0 act q u = act q u := needLength_of_nil (by simp [hl]) u
  refine ⟨fun hd => ⟨fun hp => ?_, fun hp line => ?_, fun hp line => ?_⟩, fun hd => ⟨fun hp => ?_, fun hp => ?_⟩⟩
  · exact congrArg Host.Outcome.next (take_unchanged hs hd hb
      ((empty actCopy _).trans (actCopy_swapPending (s := s.taken rest) hp)))
  · exact congrArg Host.Outcome.next (take_unchanged hs hd hb
      ((empty actCopy _).trans (actCopy_standby (s := s.taken rest) hp line)))
  · have quiet : State.Quiet { s with tbs := { s.tbs with shadow := s.tbs.active } } := hs
    exact congrArg Host.Outcome.next (take_concluded hd hb
      ((empty actCopy _).trans (actCopy_copies (s := s.taken rest) hp line)) quiet)
  · exact congrArg Host.Outcome.next (take_unchanged hs hd hb
      ((empty actCancel _).trans (actCancel_refused (s := s.taken rest) hp)))
  · have quiet : State.Quiet { s with tbs := { s.tbs with swapPending := false } } := hs
    exact congrArg Host.Outcome.next (take_concluded hd hb
      ((empty actCancel _).trans (actCancel_cancels (s := s.taken rest) hp)) quiet)

end

/-! SUPPORT. LINE_CONTROL HALT and RESUME, and the statement about them. -/

namespace Sys2Proof.Machine

/- One theorem at a time: many at once exhaust the threads. -/
set_option Elab.async false

variable {s : State} {q : QueuedCommand}

/-! ## LINE_CONTROL HALT and RESUME (R150, R154) -/

theorem actHalt_standby (h : s.lsv.line = .standby) : actHalt q s = (s, refusal .state 0) := if_pos h

theorem actHalt_halts (h : s.lsv.line ≠ .standby) : actHalt q s = (s.haltCause .command, Answer.done) := if_neg h

theorem actResume_refused (h : s.lsv.line ≠ .haltStopped) : actResume q s = (s, refusal .state 0) := if_neg h

theorem actResume_resumes (h : s.lsv.line = .haltStopped) : actResume q s = (s.resume, Answer.done) := if_pos h

/-- R154, R133: a resume leaves, but for what the end of an event may change, READY and the swap it triggers. -/
theorem State.resume_agrees (s : State) : s.resume.AgreesWith (State.swappedIfPending { s with lsv := { s.lsv with
    line := .ready, stopRequest := false, reason := none, further := 0 } }) := State.swapTrigger_agrees rfl

end Sys2Proof.Machine

section
open Sys2Proof Sys2Proof.Machine

/-- Settles O49: HALT hands its cause to the line state; RESUME enters READY, where a pending swap takes place. -/
theorem lineHaltResume : Obligations.LineHaltResume := by
  intro s q rest hs hb
  refine ⟨fun hd => ⟨fun line => ?_, fun line => ?_⟩, fun hd => ⟨fun line => ?_, fun line => ?_⟩⟩
  · exact congrArg Host.Outcome.next (take_unchanged hs hd hb (actHalt_standby (s := s.taken rest) line))
  · obtain ⟨t, taken, replied, settled⟩ := take_answers hd hb (actHalt_halts (s := s.taken rest) line) (by simp)
      (by simp [State.taken])
    exact ⟨t, congrArg Host.Outcome.next taken, replied, settled.agrees⟩
  · exact congrArg Host.Outcome.next (take_unchanged hs hd hb (actResume_refused (s := s.taken rest) line))
  · obtain ⟨t, taken, replied, settled⟩ := take_answers hd hb (actResume_resumes (s := s.taken rest) line)
      (by simp [State.resume]) (by simp [State.resume, State.taken])
    exact ⟨t, congrArg Host.Outcome.next taken, replied, settled.agrees.trans (State.resume_agrees _)⟩

end

/-! SUPPORT. What each check of a bank and of a parameter set says, which number a chain of checks reports, and the statement about
both. -/

namespace Sys2Proof.Machine

/- One theorem at a time: many at once exhaust the threads. -/
set_option Elab.async false

/-! ## The first check that fails -/

/-- `r` is the number of the first of the checks `i` to `top` that fails, or none where they all pass; `P n` says that check
`n` passes. -/
def FirstFailure (P : Nat → Prop) (i top : Nat) (r : Option Nat) : Prop :=
  (r = none ↔ ∀ m, i ≤ m → m ≤ top → P m) ∧ ∀ n, r = some n ↔ i ≤ n ∧ n ≤ top ∧ ¬ P n ∧ ∀ m, i ≤ m → m < n → P m

namespace FirstFailure

variable {P : Nat → Prop} {i mid top : Nat} {r r' : Option Nat} {c : Prop} [Decidable c]

theorem single (hc : P i ↔ ¬ c) : FirstFailure P i i (if c then some i else none) := by
  by_cases fails : c
  · rw [if_pos fails]
    refine ⟨⟨nofun, fun all => absurd fails (hc.mp (all i le_rfl le_rfl))⟩, fun n => ⟨?_, ?_⟩⟩
    · rintro ⟨⟩
      exact ⟨le_rfl, le_rfl, fun p => hc.mp p fails, fun m low high => absurd low (Nat.not_le.mpr high)⟩
    · rintro ⟨low, high, -⟩
      rw [Nat.le_antisymm low high]
  · rw [if_neg fails]
    have only (m : Nat) (low : i ≤ m) (high : m ≤ i) : P m := Nat.le_antisymm low high ▸ hc.mpr fails
    refine ⟨⟨fun _ => only, fun _ => rfl⟩, fun n => ⟨nofun, ?_⟩⟩
    rintro ⟨low, high, bad, -⟩
    exact absurd (only n low high) bad

/-- Checks `mid + 1` to `top`, made where the checks `i` to `mid` have passed. -/
theorem append (h : FirstFailure P i mid r) (h' : FirstFailure P (mid + 1) top r') (hi : i ≤ mid) (hm : mid ≤ top) :
    FirstFailure P i top (r.or r') := by
  obtain ⟨passed, failed⟩ := h
  obtain ⟨passed', failed'⟩ := h'
  cases r with
  | some k =>
    obtain ⟨low, high, bad, before⟩ := (failed k).mp rfl
    refine ⟨⟨nofun, fun all => absurd (all k low (high.trans hm)) bad⟩, fun n => ⟨?_, ?_⟩⟩
    · rintro ⟨⟩
      exact ⟨low, high.trans hm, bad, before⟩
    · rintro ⟨low', -, bad', before'⟩
      rcases Nat.lt_trichotomy n k with lt | rfl | gt
      · exact absurd (before n low' lt) bad'
      · rfl
      · exact absurd (before' k low gt) bad
  | none =>
    have good := passed.mp rfl
    have later (Q : Nat → Prop) : (∀ m, mid + 1 ≤ m → Q m → P m) ↔ ∀ m, i ≤ m → Q m → P m := by
      refine ⟨fun all m low hq => ?_, fun all m low => all m (by omega)⟩
      rcases Nat.lt_or_ge mid m with past | early
      · exact all m past hq
      · exact good m low early
    refine ⟨passed'.trans (later (· ≤ top)), fun n => (failed' n).trans ?_⟩
    rw [later (· < n)]
    refine ⟨fun ⟨low, rest⟩ => ⟨by omega, rest⟩, fun ⟨low, high, bad, before⟩ => ⟨?_, high, bad, before⟩⟩
    exact Nat.lt_of_not_le fun early => bad (good n low early)

/-- A check made before the others. -/
theorem cons (hc : P i ↔ ¬ c) (h : FirstFailure P (i + 1) top r) (hi : i ≤ top := by decide) :
    FirstFailure P i top (if c then some i else r) := by
  have joined := (single hc).append h le_rfl hi
  by_cases fails : c <;> simpa [fails] using joined

end FirstFailure

/-! ## The commit checks (Table 7-4) -/

variable {b : Bank} {p : LineParameters} {t : TableStore}

/-- The geometry that check 3 of a bank, and check 8 of a parameter set, need: that of pockets 1 and 2 and of every pocket that
the bank lists. -/
def LineParameters.Covers (p : LineParameters) (b : Bank) : Prop :=
  p.geometry[pocket1].isSome = true ∧ p.geometry[pocket2].isSome = true
    ∧ ∀ (c : ClassNo) (k : PocketNo), k ∈ b.classes[c].pockets → p.geometry[k].isSome = true

namespace Bank

theorem check1_iff : b.check1 = true ↔ ∀ r ∈ b.rules.toList, ∀ c, r.result = .cls c → b.classes[c].pockets ≠ [] := by
  unfold check1
  rw [List.all_eq_true]
  refine forall₂_congr fun r _ => ?_
  cases r.result <;> simp

theorem check2_iff : b.check2 = true ↔
    ∀ (k : PocketNo) (c d : ClassNo), k ∈ b.classes[c].pockets → k ∈ b.classes[d].pockets → c = d := by
  have mem (k : PocketNo) (c : ClassNo) : c ∈ allClasses.filter (fun c => b.lists c k) ↔ k ∈ b.classes[c].pockets := by
    simp [mem_allClasses, lists_iff]
  have distinct (k : PocketNo) : (allClasses.filter (fun c => b.lists c k)).Nodup :=
    List.Nodup.filter _ (by decide : allClasses.Nodup)
  have single (k : PocketNo) : (allClasses.filter (fun c => b.lists c k)).length ≤ 1
      ↔ ∀ c d : ClassNo, k ∈ b.classes[c].pockets → k ∈ b.classes[d].pockets → c = d := by
    rw [← List.toFinset_card_of_nodup (distinct k), Finset.card_le_one_iff]
    simp only [List.mem_toFinset, mem]
  simp only [check2, List.all_eq_true, State.mem_allPockets, true_imp_iff, decide_eq_true_eq, single]

theorem mem_listedPockets {k : PocketNo} : k ∈ b.listedPockets ↔ ∃ c : ClassNo, k ∈ b.classes[c].pockets := by
  simp [listedPockets, mem_allClasses]

/-- Check 3, and what check 8 tests of each bank. -/
theorem covers_iff : (p.defined pocket1 && p.defined pocket2 && b.listedPockets.all p.defined) = true ↔ p.Covers b := by
  simp only [Bool.and_eq_true, List.all_eq_true, mem_listedPockets, LineParameters.defined, forall_exists_index,
    LineParameters.Covers, and_assoc]
  exact and_congr_right fun _ => and_congr_right fun _ => forall_comm

theorem check3_iff : b.check3 p = true ↔ p.Covers b := covers_iff

theorem check4_iff : b.check4 p = true ↔
    ((∃ c : ClassNo, b.classes[c].pockets ≠ [] ∧ b.classes[c].bundleSize ≠ 0) → p.strappingStation ≠ none) := by
  have all : b.classes.toList.all (fun c => c.pockets.isEmpty || decide (c.bundleSize = 0)) = true
      ↔ ∀ c : ClassNo, b.classes[c].pockets = [] ∨ b.classes[c].bundleSize = 0 := by
    simp [Fin.forall_iff]
  rw [check4, Bool.or_eq_true, all, Option.isSome_iff_ne_none, imp_iff_or_not]
  simp only [not_exists, not_and_or, ne_eq, not_not]

theorem check5_iff : b.check5 = true ↔ ∀ w ∈ b.watch.toList, w.length ≠ 0 → w.length.toNat ≤ 12
      ∧ (∀ ch ∈ w.pattern.take w.length.toNat, (0x30 ≤ ch.toNat ∧ ch.toNat ≤ 0x39) ∨ (0x41 ≤ ch.toNat ∧ ch.toNat ≤ 0x5A))
      ∧ (w.denomination.toNat ≤ 15 ∨ w.denomination = 255) ∧ w.action.toNat ≤ 1 := by
  rw [check5, List.all_eq_true]
  refine forall₂_congr fun w _ => ?_
  simp only [WatchEntry.valid, validChar, Bool.or_eq_true, Bool.and_eq_true, decide_eq_true_eq, List.all_eq_true,
    and_assoc, ne_eq, imp_iff_not_or, not_not]

end Bank

/-! ## The geometry checks (Table 7-7) -/

namespace LineParameters

/-- The defined gates are the geometries of the pockets from 2 on. -/
theorem mem_gates {g : Geometry} : g ∈ p.gates ↔ ∃ k : PocketNo, k ≠ pocket1 ∧ p.geometry[k] = some g := by
  have tail (a : Option Geometry) : a ∈ p.geometry.toList.tail ↔ ∃ k : PocketNo, k ≠ pocket1 ∧ p.geometry[k] = a := by
    have places : a ∈ p.geometry.toList.tail ↔ ∃ i, ∃ h : i < 15, p.geometry[i + 1] = a := by simp [List.mem_iff_getElem]
    rw [places]
    refine ⟨fun ⟨i, h, found⟩ => ⟨⟨i + 1, by omega⟩, Fin.succ_ne_zero ⟨i, h⟩, found⟩, fun ⟨k, gated, found⟩ => ?_⟩
    obtain ⟨j, rfl⟩ := Fin.exists_succ_eq.mpr gated
    exact ⟨j.val, j.isLt, found⟩
  simp [gates, tail]

theorem gates_all {f : Geometry → Prop} [DecidablePred f] : p.gates.all (fun g => decide (f g)) = true ↔
    ∀ (k : PocketNo) (g : Geometry), k ≠ pocket1 → p.geometry[k] = some g → f g := by
  simp only [List.all_eq_true, decide_eq_true_eq, mem_gates, forall_exists_index, and_imp]
  exact forall_comm

theorem check7_iff : p.check7 = true ↔ ∀ (k : PocketNo) (g g1 : Geometry), k ≠ pocket1 → p.geometry[k] = some g →
    p.geometry[pocket1] = some g1 → g.p < g1.p := by
  unfold check7
  split
  · next g1 first =>
    rw [gates_all]
    simp [first]
  · next first => simp [first]

end LineParameters

theorem TableStore.check8_iff : t.check8 p = true ↔
    (t.generation ≠ 0 → p.Covers t.active) ∧ (t.swapPending = true → p.Covers t.shadow) := by
  rw [check8, Bool.and_eq_true, Bool.or_eq_true, Bool.or_eq_true, Bank.covers_iff, Bank.covers_iff, decide_eq_true_eq,
    Bool.not_eq_true', or_iff_not_imp_left, or_iff_not_imp_left, Bool.not_eq_false]

/-! ## The numbers that are reported (R130, R138, R139) -/

section

variable {P : Nat → Prop}

theorem Bank.firstFailure_failedCheck (h1 : P 1 ↔ b.check1 = true) (h2 : P 2 ↔ b.check2 = true)
    (h3 : P 3 ↔ b.check3 p = true) (h4 : P 4 ↔ b.check4 p = true) (h5 : P 5 ↔ b.check5 = true) :
    FirstFailure P 1 5 (b.failedCheck p) := by
  have test {n : Nat} {c : Bool} (h : P n ↔ c = true) : P n ↔ ¬ (!c) = true := h.trans (by simp)
  exact .cons (test h1) <| .cons (test h2) <| .cons (test h3) <| .cons (test h4) <| .single (test h5)

theorem LineParameters.firstFailure_failedGeometry (h1 : P 1 ↔ p.dInsp + p.tolerance < p.dDec)
    (h2 : P 2 ↔ p.maxLength < p.dDec) (h3 : P 3 ↔ p.gates.all (fun g => decide (p.dDec + g.a < g.g)) = true)
    (h4 : P 4 ↔ p.gates.all (fun g => decide (2 * p.maxLength + p.minGap + g.a < g.g)) = true)
    (h5 : P 5 ↔ p.gates.all (fun g => decide (g.a + g.h ≤ p.minGap)) = true)
    (h6 : P 6 ↔ p.gates.all (fun g => decide (g.g < g.p)) = true) (h7 : P 7 ↔ p.check7 = true) :
    FirstFailure P 1 7 p.failedGeometry := by
  have test {n : Nat} {c : Prop} (h : P n ↔ c) : P n ↔ ¬ ¬ c := h.trans not_not.symm
  exact .cons (test h1) <| .cons (test h2) <| .cons (test h3) <| .cons (test h4) <| .cons (test h5) <| .cons (test h6) <|
    .single (test h7)

theorem TableStore.failedParameters_eq (t : TableStore) (p : LineParameters) :
    t.failedParameters p = p.failedGeometry.or (if ¬ t.check8 p = true then some 8 else none) := by
  rw [failedParameters, ite_not]
  cases p.failedGeometry <;> rfl

/-- R139: check 8 comes behind the seven of R138. -/
theorem TableStore.firstFailure_failedParameters (h : FirstFailure P 1 7 p.failedGeometry) (h8 : P 8 ↔ t.check8 p = true) :
    FirstFailure P 1 8 (t.failedParameters p) := by
  rw [failedParameters_eq]
  exact h.append (.single (h8.trans not_not.symm)) (by decide) (by decide)

end

end Sys2Proof.Machine

section
open Sys2Proof Sys2Proof.Machine

/-- Settles O43: each check says what its number says, and a chain of tests reports the first that fails. -/
theorem checksPassed : Obligations.ChecksPassed := by
  refine ⟨fun b p P h1 h2 h3 h4 h5 => ?_, fun t p P needs hn h1 h2 h3 h4 h5 h6 h7 h8 => ?_⟩
  · obtain ⟨passed, failed⟩ := Bank.firstFailure_failedCheck (h1.trans Bank.check1_iff.symm) (h2.trans Bank.check2_iff.symm)
      (h3.trans Bank.check3_iff.symm) (h4.trans Bank.check4_iff.symm) (h5.trans Bank.check5_iff.symm)
    refine ⟨passed.trans ⟨fun all => ?_, fun ⟨p1, p2, p3, p4, p5⟩ m low high => ?_⟩, failed⟩
    · refine ⟨all 1 ?_ ?_, all 2 ?_ ?_, all 3 ?_ ?_, all 4 ?_ ?_, all 5 ?_ ?_⟩ <;> decide
    · interval_cases m <;> assumption
  · obtain rfl : needs = p.Covers := funext fun b => propext (hn b)
    have geometry := LineParameters.firstFailure_failedGeometry h1 h2 (h3.trans LineParameters.gates_all.symm)
      (h4.trans LineParameters.gates_all.symm) (h5.trans LineParameters.gates_all.symm)
      (h6.trans LineParameters.gates_all.symm) (h7.trans LineParameters.check7_iff.symm)
    obtain ⟨passed, failed⟩ := TableStore.firstFailure_failedParameters geometry (h8.trans TableStore.check8_iff.symm)
    refine ⟨geometry.1.trans ⟨fun all => ?_, fun ⟨p1, p2, p3, p4, p5, p6, p7⟩ m low high => ?_⟩, passed, failed⟩
    · refine ⟨all 1 ?_ ?_, all 2 ?_ ?_, all 3 ?_ ?_, all 4 ?_ ?_, all 5 ?_ ?_, all 6 ?_ ?_, all 7 ?_ ?_⟩ <;> decide
    · interval_cases m <;> assumption

end

/-! SUPPORT. What an accepted parameter set and the end of its event leave, and the statement about SET_LINE_PARAMETERS. -/

namespace Sys2Proof.Machine

/- One theorem at a time: many at once exhaust the threads. -/
set_option Elab.async false

variable {s t u : State} {j k : PocketNo} {q : QueuedCommand} {rest : List QueuedCommand} {a : Answer} {act : Act} {row : Instr}
  {p : LineParameters} {n : Nat}

namespace State

/-! ## Where no removal is looked for (R85) -/

/-- No pocket waits for its REMOVED record. -/
def NoRemovals (s : State) : Prop :=
  ∀ k, ¬ ((s.pocket k).state = .awaitingRemoval ∧ (s.pocket k).emptyEye = false ∧ (s.pocket k).record = none)

theorem Quiet.noRemovals (h : s.Quiet) : s.NoRemovals := fun k => (h.1 k).2

theorem NoRemovals.congr (h : s.NoRemovals) (hp : t.pkm = s.pkm) : t.NoRemovals := fun k => by
  rw [pocket_of_pkm hp]
  exact h k

/-- An order that is filled leaves the rest of its pocket, and the other pockets. -/
theorem fillOrder_pocket (j k : PocketNo) (s : State) :
    (s.fillOrder j).pocket k = { s.pocket k with strapOrder := ((s.fillOrder j).pocket k).strapOrder } := by
  by_cases hk : k = j
  · subst hk
    unfold fillOrder
    dsimp only
    split
    · rw [putPocket_pocket_same]
    · rfl
  · rw [pocket_fillOrder_other hk]

theorem NoRemovals.fillOrder (h : s.NoRemovals) (j : PocketNo) : (s.fillOrder j).NoRemovals := fun k => by
  rw [fillOrder_pocket]
  exact h k

/-- R81 alone gives no record, so it leaves the next bundle number (R79). -/
theorem heldBack_of_noRemovals (h : s.NoRemovals) : s.heldBack.NoRemovals ∧ s.heldBack.pkm.nextBundle = s.pkm.nextBundle := by
  unfold heldBack
  generalize allPockets = l
  induction l generalizing s with
  | nil => exact ⟨h, rfl⟩
  | cons j l ih =>
    have rests : (s.fillOrder j).issueRemoved j = s.fillOrder j := if_neg (h.fillOrder j j)
    obtain ⟨none, next⟩ := ih (h.fillOrder j)
    rw [List.foldl_cons, rests]
    exact ⟨none, next.trans (by simp)⟩

/-- At the end of an answered command's event the arbiter takes no bundle record, so no removal falls due. -/
theorem settle_nextBundle (h : s.NoRemovals) (hr : s.cmp.replies ≠ []) : s.settle.pkm.nextBundle = s.pkm.nextBundle := by
  obtain ⟨pkm, -, -, -, cmp⟩ := awaiting_keeps s
  obtain ⟨placed, -, -⟩ := arbitrate_keeps (s := s.awaiting) (by rw [cmp]; exact hr)
  obtain ⟨none, first⟩ := heldBack_of_noRemovals h
  obtain ⟨-, second⟩ := heldBack_of_noRemovals (none.congr (placed.trans pkm))
  rw [settle_awaiting, (backlogTest_keeps _).1]
  simp [second, placed, pkm, first]

/-! ## An accepted parameter set (R3, R79, R81, R140, R158) -/

/-- R81: a parameter set touches a pocket's strap order alone. -/
theorem setParameters_pocket (p : LineParameters) (k : PocketNo) (s : State) : (s.setParameters p).pocket k =
    { s.pocket k with strapOrder := if p.strappingStation = none then none else (s.pocket k).strapOrder } := by
  unfold setParameters
  by_cases h : p.strappingStation = none <;> simp [h, pocket, PocketMonitor.withoutOrders]

theorem setParameters_nextBundle (p : LineParameters) (s : State) :
    (s.setParameters p).pkm.nextBundle = if p.bundleBase = 0 then s.pkm.nextBundle else p.bundleBase := by
  unfold setParameters
  by_cases h : p.strappingStation = none <;> simp [h, PocketMonitor.withoutOrders]

theorem setParameters_agrees (p : LineParameters) (s : State) : (s.setParameters p).AgreesWith { s with
    trk := { s.trk with phase := 0 }, tbs := { s.tbs with params := p }
    lsv := { s.lsv with idleMark := none, idleReached := false } } := by
  have unordered : s.pkm.withoutOrders.pockets.map Pocket.steady = s.pkm.pockets.map Pocket.steady := by
    rw [PocketMonitor.withoutOrders, Vector.map_map]
    rfl
  unfold AgreesWith steady setParameters
  split
  · dsimp only
    rw [unordered]
  · rfl

theorem setParameters_noRemovals (h : s.NoRemovals) (p : LineParameters) : (s.setParameters p).NoRemovals := fun k => by
  rw [setParameters_pocket]
  exact h k

/-- Without a strapping station the end of a parameter set's event fills no order and places none. -/
theorem settle_orders_of_unstrapped (h : s.Quiet) (hp : p.strappingStation = none) (pkm : u.pkm = (s.setParameters p).pkm)
    (tbs : u.tbs = (s.setParameters p).tbs) (lnk : u.lnk = s.lnk) (k : PocketNo) : (u.settle.pocket k).strapOrder = none := by
  have orders (j : PocketNo) : (u.pocket j).strapOrder = none := by
    rw [pocket_of_pkm pkm, setParameters_pocket]
    exact if_pos hp
  have records (empty : u.lnk.slot = none) (j : PocketNo) : (u.pocket j).record = none := by
    rw [pocket_of_pkm pkm, setParameters_pocket]
    rw [lnk] at empty
    exact (h.slots_empty empty j).2
  have quiet (j : PocketNo) : u.PocketQuiet j :=
    ⟨fun ⟨_, _, _, station⟩ => station (by rw [tbs]; exact hp),
      (setParameters_noRemovals h.noRemovals p).congr pkm j⟩
  have kept : u.settle.pkm.pockets = u.pkm.pockets := settle_pockets quiet fun empty j => ⟨orders j, records empty j⟩
  rw [pocket, kept]
  exact orders k

end State

/-! ## SET_LINE_PARAMETERS (R137) -/

theorem LineState.takesParameters_iff {l : LineState} : l.takesParameters = true ↔ l = .standby ∨ l = .ready := by
  cases l <;> simp [takesParameters]

theorem actSetLineParameters_state (hn : s.lsv.line ≠ .standby) (hr : s.lsv.line ≠ .ready) :
    actSetLineParameters q s = (s, refusal .state 0) :=
  if_pos (by simp [Bool.eq_false_iff, LineState.takesParameters_iff, hn, hr])

theorem actSetLineParameters_geometry (hl : s.lsv.line = .standby ∨ s.lsv.line = .ready)
    (hf : s.tbs.failedParameters (parametersOf q.payload) = some n) :
    actSetLineParameters q s = (s, refusal .geometry n) := by
  rw [actSetLineParameters, if_neg (by simp [LineState.takesParameters_iff.mpr hl]), hf]
  rfl

theorem actSetLineParameters_sets (hl : s.lsv.line = .standby ∨ s.lsv.line = .ready)
    (hf : s.tbs.failedParameters (parametersOf q.payload) = none) :
    actSetLineParameters q s = (s.setParameters (parametersOf q.payload), Answer.done) := by
  rw [actSetLineParameters, if_neg (by simp [LineState.takesParameters_iff.mpr hl]), hf]
  rfl

/-! ## Its take -/

/-- R172, R174: the take of an addressed command ends the event of the command's own effect `u` with a reply waiting. -/
theorem take_settles (hd : s.Due row q rest) (hb : q.broadcast = false) (ha : act q (s.taken rest) = (u, a)) :
    ∃ v : State, s.takeCommand row act = v.settle ∧ v.pkm = u.pkm ∧ v.tbs = u.tbs ∧ v.lnk = u.lnk ∧ v.cmp.replies ≠ [] := by
  obtain ⟨commands, hrow, may⟩ := hd
  have acted : act q { s with cmp := { s.cmp with commands := rest } } = (u, a) := ha
  refine ⟨u.answer q a, ?_, ?_⟩
  · unfold State.takeCommand
    rw [commands]
    dsimp only
    rw [if_pos ⟨hrow, may⟩, acted]
  · rw [State.answer, if_neg (by simp [hb])]
    exact ⟨rfl, rfl, rfl, by simp⟩

end Sys2Proof.Machine

section
open Sys2Proof Sys2Proof.Machine

/-- Settles O44: the tests in their order; an accepted set leaves no removal to be looked for, so the end of its event takes no
bundle number, and without a strapping station it fills no order. -/
theorem setLineParameters : Obligations.SetLineParameters := by
  intro s q rest hs hd hb
  refine ⟨fun short => ?_, fun length => ?_⟩
  · exact congrArg Host.Outcome.next (take_unchanged hs hd hb (if_neg short))
  have long (u : State) : needLength 196 actSetLineParameters q u = actSetLineParameters q u := needLength_of_nil length u
  refine ⟨fun notStandby notReady => ?_, fun line => ⟨fun n failed => ?_, fun passed => ?_⟩⟩
  · exact congrArg Host.Outcome.next (take_unchanged hs hd hb
      ((long _).trans (actSetLineParameters_state (s := s.taken rest) notStandby notReady)))
  · exact congrArg Host.Outcome.next (take_unchanged hs hd hb
      ((long _).trans (actSetLineParameters_geometry (s := s.taken rest) line failed)))
  · have sets := (long _).trans (actSetLineParameters_sets (s := s.taken rest) line passed)
    obtain ⟨t, taken, replied, settled⟩ := take_answers hd hb sets rfl rfl
    generalize parametersOf q.payload = p at *
    have removals : ((s.taken rest).setParameters p).NoRemovals :=
      State.setParameters_noRemovals (s := s.taken rest) hs.noRemovals p
    obtain ⟨v, ended, pkm, tbs, lnk, replies⟩ := take_settles hd hb sets
    have final : t = v.settle := taken.symm.trans ended
    refine ⟨t, ⟨congrArg Host.Outcome.next taken, replied, ?_⟩, ?_, fun unstrapped k => ?_⟩
    · exact settled.agrees.trans (State.setParameters_agrees p _)
    · rw [final, State.settle_nextBundle (removals.congr pkm) replies, pkm]
      exact State.setParameters_nextBundle p (s.taken rest)
    · rw [final]
      exact State.settle_orders_of_unstrapped (s := s.taken rest) hs unstrapped pkm tbs lnk k

end

/-! SUPPORT. The latches of the line state and of the event sets as a relation between two states, and that the operations of the
pockets, the tables, the deposits and the transit queue stand in it. -/

namespace Sys2Proof.Machine

/- One theorem at a time: many at once exhaust the threads. -/
set_option Elab.async false

variable {s t u : State} {k : PocketNo}

/-! ## The relation every operation stands in -/

/-- `t` keeps the latches of `s`: each invariant of LatchesKept that holds in `s` holds in `t`. An operation's own lemma gives the
invariants that speak of something it touches. -/
structure State.KeepsLatches (s t : State) : Prop where
  line : s.LineHeld → t.LineHeld := by exact id
  halt : s.HaltLatched → t.HaltLatched := by exact id
  standby : s.StandbyUntilSwap → t.StandbyUntilSwap := by exact id
  attn : s.AttnFollows → t.AttnFollows := by exact id

theorem LineState.isHalt_iff {l : LineState} : l.isHalt = true ↔ l = .haltStopping ∨ l = .haltStopped := by
  cases l <;> simp [isHalt]

theorem HaltCause.code_injective {a b : HaltCause} (h : a.code = b.code) : a = b := by
  revert h
  cases a <;> cases b <;> decide

namespace State

theorem KeepsLatches.refl (s : State) : s.KeepsLatches s := {}

theorem KeepsLatches.trans (h : s.KeepsLatches t) (g : t.KeepsLatches u) : s.KeepsLatches u where
  line := g.line ∘ h.line
  halt := g.halt ∘ h.halt
  standby := g.standby ∘ h.standby
  attn := g.attn ∘ h.attn

/-- A conditional update keeps the latches if both branches do. -/
theorem KeepsLatches.ite {c : Prop} [Decidable c] (h : c → s.KeepsLatches t) (g : ¬ c → s.KeepsLatches u) :
    s.KeepsLatches (if c then t else u) := by
  split
  · exact h ‹_›
  · exact g ‹_›

theorem KeepsLatches.foldl {α : Type} {f : State → α → State} (h : ∀ (s : State) (a : α), s.KeepsLatches (f s a))
    (l : List α) (s : State) : s.KeepsLatches (l.foldl f s) := by
  induction l generalizing s with
  | nil => exact .refl s
  | cons a l ih => exact (h s a).trans (ih (f s a))

theorem AgreesWith.stopRequest (h : t.AgreesWith s) : t.lsv.stopRequest = s.lsv.stopRequest :=
  show t.steady.lsv.stopRequest = s.steady.lsv.stopRequest by rw [h.steady_eq]

/-- The end of an event leaves the reasons that it does not watch as they are. -/
theorem AgreesWith.held (r : FeedReason) (hr : r.loose = false) (h : t.AgreesWith s) : t.held r = s.held r := by
  have bit : (0x87#8).getLsbD r.code = true := by revert hr; cases r <;> decide
  have masked (w : BitVec 8) : setHas (steadyHolds w) r.code = setHas w r.code := by
    simp only [setHas, steadyHolds, BitVec.getLsbD_and, bit, Bool.and_true]
  have holds : steadyHolds t.lsv.holds = steadyHolds s.lsv.holds :=
    show t.steady.lsv.holds = s.steady.lsv.holds by rw [h.steady_eq]
  rw [State.held, State.held, ← masked, holds, masked]

/-- What agrees but for the end of an event has the same latches of the line; ATTN is left to be seen. -/
theorem KeepsLatches.of_agrees (h : t.AgreesWith s) (attn : s.AttnFollows → t.AttnFollows) : s.KeepsLatches t where
  line := by
    unfold LineHeld
    rw [h.held .lineNotRun rfl, line_of_steady h]
    exact id
  halt := by
    unfold HaltLatched
    rw [h.stopRequest, line_of_steady h, h.reason, h.further]
    exact id
  standby := by
    unfold StandbyUntilSwap
    rw [line_of_steady h, tbs_of_steady h]
    exact id
  attn := attn

theorem AttnFollows.congr (h : s.AttnFollows) (he : t.evu = s.evu) : t.AttnFollows := by
  unfold AttnFollows at h ⊢
  rwa [he]

/-! ## Latches -/

/-- R186, R187: new sets bring ATTN and the flag into line with them. -/
theorem attnFollows_withSets (pending enable : BitVec 16) (s : State) :
    State.AttnFollows { s with evu := s.evu.withSets pending enable } := by
  refine ⟨by simp [EventUnit.withSets], fun owed empty => ?_⟩
  have empty : pending &&& enable = 0 := empty
  simp [EventUnit.withSets, empty] at owed

theorem withSets_latches (pending enable : BitVec 16) (s : State) :
    s.KeepsLatches { s with evu := s.evu.withSets pending enable } where
  attn _ := attnFollows_withSets pending enable s

theorem raise_latches (x : EventKind) (s : State) : s.KeepsLatches (s.raise x) := withSets_latches _ _ s

theorem bump_latches (c : Counter) (s : State) : s.KeepsLatches (s.bump c) := {}

theorem hold_latches {r : FeedReason} (s : State) (h : FeedReason.lineNotRun ≠ r := by decide) :
    s.KeepsLatches (s.hold r) where
  line := by
    unfold LineHeld
    rw [held_hold_other h]
    exact id

theorem release_latches {r : FeedReason} (s : State) (h : FeedReason.lineNotRun ≠ r := by decide) :
    s.KeepsLatches (s.release r) where
  line := by
    unfold LineHeld
    rw [held_release_other h]
    exact id

theorem holdWhile_latches {r : FeedReason} (b : Bool) (s : State) (h : FeedReason.lineNotRun ≠ r := by decide) :
    s.KeepsLatches (s.holdWhile r b) := .ite (fun _ => hold_latches s h) fun _ => release_latches s h

theorem setHas_setAdd_other {n : Nat} (w : BitVec n) {i j : Nat} (h : i ≠ j) : setHas (setAdd w j) i = setHas w i := by
  simp [setHas, setAdd, h.symm]

/-- R149: the entry to HALT-STOPPING, from READY, RUN and DRAIN. -/
theorem enterHaltStopping_latches (c : HaltCause) (h : s.lsv.line ≠ .standby) : s.KeepsLatches (s.enterHaltStopping c) where
  line _ := iff_of_true (setHas_setAdd_self _ (by decide)) LineState.noConfusion
  halt _ := ⟨rfl, rfl, fun _ => rfl, fun x _ => by simp [enterHaltStopping, setHas]⟩
  standby hs := iff_of_false LineState.noConfusion (mt hs.mpr h)
  attn _ := attnFollows_withSets _ _ _

/-- R148: a cause that joins the further ones in HALT is not the reason. -/
theorem further_latches {c : HaltCause} (hl : s.lsv.line.isHalt = true) (hc : s.lsv.reason ≠ some c) :
    s.KeepsLatches { s with lsv := { s.lsv with further := setAdd s.lsv.further c.code } } where
  halt := by
    rintro ⟨stop, reason, -, apart⟩
    refine ⟨stop, reason, fun hn => absurd (hl.symm.trans hn) (by decide), fun x hx => ?_⟩
    have other : x ≠ c := fun e => hc (e ▸ hx)
    exact (setHas_setAdd_other _ (mt HaltCause.code_injective other)).trans (apart x hx)

theorem haltCause_latches (c : HaltCause) (s : State) : s.KeepsLatches (s.haltCause c) := by
  have joins (hl : s.lsv.line.isHalt = true) : s.KeepsLatches (if s.lsv.reason = some c then s
      else { s with lsv := { s.lsv with further := setAdd s.lsv.further c.code } }) :=
    .ite (fun _ => .refl s) fun hc => further_latches hl hc
  unfold haltCause
  split <;> rename_i hl
  · exact .refl s
  · exact enterHaltStopping_latches c (by simp [hl])
  · exact enterHaltStopping_latches c (by simp [hl])
  · exact enterHaltStopping_latches c (by simp [hl])
  · exact joins (by simp [hl, LineState.isHalt])
  · exact joins (by simp [hl, LineState.isHalt])

/-! ## The line state outside HALT -/

/-- A line that goes from one state outside STANDBY and HALT to another keeps its latches, with LINE_NOT_RUN as the new state
wants it. -/
theorem setLine_latches {l : LineState} {w : BitVec 8}
    (before : s.lsv.line ≠ .standby ∧ s.lsv.line.isHalt = false) (after : l ≠ .standby ∧ l.isHalt = false)
    (held : s.LineHeld → (setHas w FeedReason.lineNotRun.code = true ↔ l ≠ .run)) :
    s.KeepsLatches { s with lsv := { s.lsv with line := l, holds := w } } where
  line := held
  halt := by
    unfold HaltLatched
    dsimp only
    rw [before.2, after.2]
    exact id
  standby hs := iff_of_false after.1 (mt hs.mpr before.1)

/-! ## Pockets -/

variable {p : Pocket}

theorem storePocket_latches (k : PocketNo) (p : Pocket) (s : State) : s.KeepsLatches (s.storePocket k p) := {}

theorem setBlocked_latches (w : BitVec 24) (s : State) : s.KeepsLatches (s.setBlocked w) := by
  have stored : s.KeepsLatches { s with pkm := { s.pkm with blocked := w } } := {}
  exact stored.trans (holdWhile_latches _ _)

theorem putPocket_latches (k : PocketNo) (p : Pocket) (s : State) : s.KeepsLatches (s.putPocket k p) :=
  .ite (fun _ => (storePocket_latches k p s).trans (setBlocked_latches _ _)) fun _ => storePocket_latches k p s

theorem reenterPocket_latches (k : PocketNo) (p : Pocket) (s : State) : s.KeepsLatches (s.reenterPocket k p) :=
  .ite (fun _ => (storePocket_latches k p s).trans (setBlocked_latches _ _)) fun _ => storePocket_latches k p s

theorem blockClass_latches (c : ClassNo) (s : State) : s.KeepsLatches (s.blockClass c) :=
  .ite (fun _ => .refl s) fun _ => (setBlocked_latches _ s).trans (raise_latches _ _)

theorem faultPocket_latches (k : PocketNo) (s : State) : s.KeepsLatches (s.faultPocket k) :=
  .ite (fun _ => .refl s) fun _ => (putPocket_latches k _ s).trans (raise_latches _ _)

theorem strayPocket_latches (k : PocketNo) (s : State) : s.KeepsLatches (s.strayPocket k) := by
  unfold strayPocket
  split
  · exact putPocket_latches k _ s
  · exact .refl s
  · exact .refl s
  all_goals exact faultPocket_latches k s

theorem setNextBundle_latches (n : Nat) (s : State) : s.KeepsLatches { s with pkm := { s.pkm with nextBundle := n } } := {}

theorem commit_latches (k : PocketNo) (d : Nat) (s : State) : s.KeepsLatches (s.commit k d) := by
  have entered : s.KeepsLatches (if k = pocket1 ∧ (s.pocket k).state = .unaccounted then s.faultPocket k else s) :=
    .ite (fun _ => faultPocket_latches k s) fun _ => .refl s
  exact entered.trans ((setNextBundle_latches _ _).trans (putPocket_latches k _ _))

theorem withdraw_latches (k : PocketNo) (d : Nat) (s : State) : s.KeepsLatches (s.withdraw k d) := putPocket_latches k _ s

theorem issueRecord_latches (k : PocketNo) (st : BundleStatus) (s : State) : s.KeepsLatches (s.issueRecord k st) :=
  (setNextBundle_latches _ s).trans (putPocket_latches k _ _)

theorem startBundle_latches (k : PocketNo) (s : State) : s.KeepsLatches (s.startBundle k) := reenterPocket_latches k _ s

theorem closePure_latches (d : Nat) (s : State) : s.KeepsLatches (s.closePure d) :=
  .foldl (fun s k => .ite (fun _ => reenterPocket_latches k _ s) fun _ => .refl s) allPockets s

/-! ## Line clear -/

theorem settleCleared_latches (k : PocketNo) (s : State) : s.KeepsLatches (s.settleCleared k) :=
  .ite (fun _ => putPocket_latches k _ s) fun _ => (putPocket_latches k _ s).trans (startBundle_latches k _)

theorem issueCleared_latches (k : PocketNo) (s : State) : s.KeepsLatches (s.issueCleared k) :=
  .ite (fun _ => (putPocket_latches k _ s).trans (issueRecord_latches k _ _)) fun _ => .refl s

theorem clearPocket_latches (k : PocketNo) (s : State) : s.KeepsLatches (s.clearPocket k) :=
  .ite (fun _ => .refl s) fun _ => ((issueCleared_latches k s).trans (putPocket_latches k _ _)).trans
    (.ite (fun _ => faultPocket_latches k _) fun _ => settleCleared_latches k _)

theorem clearPockets_latches (s : State) : s.KeepsLatches s.clearPockets := .foldl (fun s k => clearPocket_latches k s) allPockets s

/-! ## Tables -/

/-- R132, R143: with the first swap the generation leaves 0 and the line leaves STANDBY. -/
theorem swapped_latches (s : State) : s.KeepsLatches s.swapped := by
  have line : s.swapped.lsv.line = if s.lsv.line = .standby then .ready else s.lsv.line := rfl
  have generation : s.swapped.tbs.generation = if s.tbs.generation < 65535 then s.tbs.generation + 1 else 1 := rfl
  refine ⟨fun hs => ?_, fun hs => ?_, fun _ => ?_, fun _ => attnFollows_withSets _ _ _⟩
  · have run : s.swapped.lsv.line ≠ .run ↔ s.lsv.line ≠ .run := by
      rw [line]
      split <;> simp [*]
    exact hs.trans run.symm
  · have plain : s.swapped.lsv.line.isHalt = s.lsv.line.isHalt := by
      rw [line]
      split <;> simp [*, LineState.isHalt]
    unfold HaltLatched
    rw [plain]
    exact hs
  · refine iff_of_false ?_ ?_
    · rw [line]
      split <;> simp [*]
    · rw [generation]
      split <;> simp

theorem swap_latches (s : State) : s.KeepsLatches s.swap := by
  have attn : s.swap.AttnFollows := by
    refine AttnFollows.congr (s := s.exchanged) (attnFollows_withSets _ _ _) ?_
    rw [swap_eq, leaveStandby]
    split <;> rfl
  exact (swapped_latches s).trans (.of_agrees (swap_agrees s) fun _ => attn)

theorem swapTrigger_latches (s : State) : s.KeepsLatches s.swapTrigger := .ite (fun _ => swap_latches s) fun _ => .refl s

/-- A line that is neither in STANDBY nor in HALT enters READY with LINE_NOT_RUN held. -/
theorem enterReady_latches (h : s.lsv.line ≠ .standby ∧ s.lsv.line.isHalt = false)
    (held : s.LineHeld → s.held .lineNotRun = true) : s.KeepsLatches s.enterReady := by
  have ready : s.KeepsLatches { s with lsv := { s.lsv with line := .ready } } :=
    setLine_latches (w := s.lsv.holds) h (by decide) fun hs => iff_of_true (held hs) LineState.noConfusion
  exact ready.trans (swapTrigger_latches _)

/-! ## Deposits -/

theorem setDpu_latches (d : DepositUnit) (s : State) : s.KeepsLatches { s with dpu := d } := {}

theorem updateContext_latches (d : Nat) (f : Context → Context) (s : State) : s.KeepsLatches (s.updateContext d f) :=
  setDpu_latches _ s

theorem completeDeposit_latches (d : Nat) (s : State) : s.KeepsLatches (s.completeDeposit d) :=
  ((updateContext_latches d _ s).trans (setDpu_latches _ _)).trans (closePure_latches d _)

theorem completionTest_latches (d : Nat) (s : State) : s.KeepsLatches (s.completionTest d) := by
  unfold completionTest
  split
  · exact .ite (fun _ => completeDeposit_latches d s) fun _ => .refl s
  · exact .refl s

theorem endActive_latches (kind : EndKind) (s : State) : s.KeepsLatches (s.endActive kind) := by
  unfold endActive
  split
  · exact (updateContext_latches _ _ s).trans (completionTest_latches _ _)
  · exact .refl s

theorem openContext_latches (card : Option Nat) (s : State) : s.KeepsLatches (s.openContext card) := by
  unfold openContext
  extract_lets found dpu t t'
  have opened : s.KeepsLatches t := setDpu_latches _ s
  have counted : s.KeepsLatches t' :=
    .ite (fun _ => opened.trans ((hold_latches t).trans (raise_latches _ _))) fun _ => opened
  exact .ite (fun _ => counted.trans (raise_latches _ _)) fun _ => counted

theorem cardBoundary_latches (card : Option Nat) (s : State) : s.KeepsLatches (s.cardBoundary card) := by
  have ended := endActive_latches .card s
  exact .ite (fun _ => ended.trans (openContext_latches card _)) fun _ => ended.trans (haltCause_latches _ _)

theorem boundary_latches (card : CardField) (s : State) : s.KeepsLatches (s.boundary card) := by
  unfold boundary
  split
  · exact endActive_latches .endCard s
  all_goals exact cardBoundary_latches _ s

theorem writeOpeningGeneration_latches (s : State) : s.KeepsLatches s.writeOpeningGeneration := by
  unfold writeOpeningGeneration
  split
  · exact updateContext_latches _ _ s
  · exact .refl s

theorem countDelivery_latches (e : Entry) (s : State) : s.KeepsLatches (s.countDelivery e) := by
  unfold countDelivery
  split
  · exact (updateContext_latches _ _ s).trans (completionTest_latches _ _)
  · exact .refl s

theorem countInDoubt_latches (e : Entry) (s : State) : s.KeepsLatches (s.countInDoubt e) := by
  unfold countInDoubt
  split
  · exact (updateContext_latches _ _ s).trans (completionTest_latches _ _)
  · exact .ite (fun _ => .refl s) fun _ => bump_latches _ s

/-! ## The transit queue and the gates -/

theorem setTrk_latches (x : Tracker) (s : State) : s.KeepsLatches { s with trk := x } := {}

theorem updateEntry_latches (seq : Nat) (f : Entry → Entry) (s : State) : s.KeepsLatches (s.updateEntry seq f) :=
  setTrk_latches _ s

theorem setGate_latches (k : PocketNo) (g : Gate) (s : State) : s.KeepsLatches (s.setGate k g) := {}

theorem leaveGateOf_latches (e : Entry) (s : State) : s.KeepsLatches (s.leaveGateOf e) := by
  unfold leaveGateOf
  split
  · exact .ite (fun _ => setGate_latches _ _ s) fun _ => .refl s
  · exact .refl s

theorem dropEntry_latches (seq : Nat) (s : State) : s.KeepsLatches (s.dropEntry seq) :=
  (setTrk_latches _ s).trans (holdWhile_latches _ _)

/-- R146: a line in DRAIN, where LINE_NOT_RUN is held, enters READY. -/
theorem reportEmpty_latches (s : State) : s.KeepsLatches s.reportEmpty := by
  have drained : s.KeepsLatches (if s.lsv.line = .drain then s.enterReady else s) := by
    refine .ite (fun hl => ?_) fun _ => .refl s
    exact enterReady_latches (by simp [hl, LineState.isHalt]) fun held => held.mpr (by simp [hl])
  exact .ite (fun _ => drained.trans (swapTrigger_latches _)) fun _ => drained

theorem removeEntry_latches (seq : Nat) (s : State) : s.KeepsLatches (s.removeEntry seq) :=
  .ite (fun _ => (dropEntry_latches seq s).trans (reportEmpty_latches _)) fun _ => dropEntry_latches seq s

theorem deliverEntry_latches (k : PocketNo) (e : Entry) (s : State) : s.KeepsLatches (s.deliverEntry k e) :=
  ((((updateEntry_latches _ _ s).trans (putPocket_latches k _ _)).trans (countDelivery_latches e _)).trans
    (leaveGateOf_latches e _)).trans (removeEntry_latches _ _)

theorem missPocket_latches (k : PocketNo) (d : Nat) (s : State) : s.KeepsLatches (s.missPocket k d) :=
  .ite (fun _ => (storePocket_latches k _ s).trans (faultPocket_latches k _))
    fun _ => (withdraw_latches k d s).trans (faultPocket_latches k _)

theorem missEntry_latches (k : PocketNo) (e : Entry) (s : State) : s.KeepsLatches (s.missEntry k e) :=
  ((((missPocket_latches k _ s).trans (countInDoubt_latches e _)).trans (leaveGateOf_latches e _)).trans
    (removeEntry_latches _ _)).trans (haltCause_latches _ _)

/-! ## Expiries -/

theorem expireGateOn_latches (seq : Nat) (s : State) : s.KeepsLatches (s.expireGateOn seq) := by
  unfold expireGateOn
  split
  · split
    · exact .ite (fun _ => (updateEntry_latches _ _ s).trans (setGate_latches _ _ _)) fun _ => .refl s
    · exact .refl s
  · exact .refl s

theorem expireGateOff_latches (seq : Nat) (s : State) : s.KeepsLatches (s.expireGateOff seq) := by
  unfold expireGateOff
  split
  · split
    · exact .ite (fun _ => (updateEntry_latches _ _ s).trans (setGate_latches _ _ _)) fun _ => .refl s
    · exact .refl s
  · exact .refl s

theorem expireWindow_latches (seq : Nat) (s : State) : s.KeepsLatches (s.expireWindow seq) := by
  unfold expireWindow
  split
  · split
    · exact .ite (fun _ => missEntry_latches _ _ s) fun _ => .refl s
    · exact .refl s
  · exact .refl s

theorem expireReached_latches (seq : Nat) (s : State) : s.KeepsLatches (s.expireReached seq) :=
  ((expireGateOn_latches seq s).trans (expireGateOff_latches seq _)).trans (expireWindow_latches seq _)

/-! ## The stop -/

theorem convertEntry_latches (s : State) (e : Entry) : s.KeepsLatches (s.convertEntry e) := by
  unfold convertEntry
  split
  · refine KeepsLatches.trans ?_ ((countInDoubt_latches e _).trans (dropEntry_latches _ _))
    split
    · exact withdraw_latches _ _ s
    · exact .refl s
  · exact (bump_latches _ s).trans (dropEntry_latches _ _)

theorem convertInDoubt_latches (s : State) : s.KeepsLatches s.convertInDoubt := by
  have off (u : State) : u.KeepsLatches u.gatesOff := {}
  exact (((KeepsLatches.foldl convertEntry_latches s.trk.queue s).trans (off _)).trans (release_latches _)).trans
    (reportEmpty_latches _)

/-- R151: the line passes from HALT-STOPPING to HALT-STOPPED, still in HALT. -/
theorem stopped_latches (h : s.lsv.line = .haltStopping) :
    s.KeepsLatches { s with lsv := { s.lsv with stopScheduled := false, line := .haltStopped } } where
  line hs := iff_of_true (hs.mpr (by simp [h])) LineState.noConfusion
  halt := by
    unfold HaltLatched
    rw [h]
    exact id
  standby hs := iff_of_false LineState.noConfusion (mt hs.mpr (by simp [h]))

theorem stopEvent_latches (s : State) : s.KeepsLatches s.stopEvent := by
  have unscheduled : s.KeepsLatches { s with lsv := { s.lsv with stopScheduled := false } } := {}
  exact .ite (fun h => (stopped_latches h.1).trans (convertInDoubt_latches _)) fun _ => unscheduled

end State
end Sys2Proof.Machine

/-! SUPPORT. The latches under routing, identification, the end of an event and the inbound side of the link. -/

namespace Sys2Proof.Machine

/- One theorem at a time: many at once exhaust the threads. -/
set_option Elab.async false

namespace State

variable {s t u : State} {k : PocketNo}

/-! ## Routing -/

theorem placeEntry_latches (seq : Nat) (dest : Destination) (face : Option Nat) (k : PocketNo) (s : State) :
    s.KeepsLatches (s.placeEntry seq dest face k) :=
  (updateEntry_latches _ _ s).trans (expireReached_latches seq _)

theorem commitReject_latches (d : Nat) (s : State) : s.KeepsLatches (s.commitReject d) := by
  have room : s.KeepsLatches (if (s.pocket pocket1).hasRoom d then s
      else (s.faultPocket pocket1).haltCause .looseOverflow) :=
    .ite (fun _ => .refl s) fun _ => (faultPocket_latches _ s).trans (haltCause_latches _ _)
  exact room.trans (commit_latches _ _ _)

theorem settleDestination_latches (seq d : Nat) (face : Option Nat) (dest : Destination) (s : State) :
    s.KeepsLatches (s.settleDestination seq d face dest) := by
  have rejected (u : State) (r : RejectReason) :
      u.KeepsLatches ((u.commitReject d).placeEntry seq (.reject r) none pocket1) :=
    (commitReject_latches d u).trans (placeEntry_latches _ _ _ _ _)
  have placed (k : PocketNo) (face : Option Nat) : s.KeepsLatches ((s.commit k d).placeEntry seq dest face k) :=
    (commit_latches k d s).trans (placeEntry_latches _ _ _ _ _)
  unfold settleDestination
  split
  · exact rejected s _
  · split
    · exact placed pocket2 none
    · exact (haltCause_latches _ s).trans (rejected _ _)
  · split
    · exact placed _ face
    · exact (blockClass_latches _ s).trans (rejected _ _)

theorem recordHits_latches (e : Entry) (n : NoteContents) (hits : List (Fin 32)) (s : State) :
    s.KeepsLatches (s.recordHits e n hits) := by
  have counted (r : RoutingEngine) : s.KeepsLatches { s with rte := r } := {}
  unfold recordHits
  split
  · exact .refl s
  · exact ((counted _).trans (bump_latches _ _)).trans (raise_latches _ _)

theorem routeNote_latches (seq : Nat) (e : Entry) (n : NoteContents) (s : State) : s.KeepsLatches (s.routeNote seq e n) :=
  .ite (fun _ => (recordHits_latches e n _ s).trans (settleDestination_latches _ _ _ _ _))
    fun _ => (recordHits_latches e n _ s).trans (settleDestination_latches _ _ _ _ _)

theorem route_latches (seq : Nat) (s : State) : s.KeepsLatches (s.route seq) := by
  unfold route
  split
  · extract_lets u
    have counted : s.KeepsLatches u := .ite (fun _ => bump_latches _ s) fun _ => .refl s
    clear_value u
    split
    · split
      · exact counted.trans (settleDestination_latches _ _ _ _ _)
      · exact counted.trans (routeNote_latches _ _ _ _)
    · exact counted.trans (settleDestination_latches _ _ _ _ _)
    · exact counted
  · exact .refl s

theorem replan_latches (seq : Nat) (s : State) : s.KeepsLatches (s.replan seq) := by
  unfold replan
  split
  · split
    · exact ((withdraw_latches _ _ s).trans (commitReject_latches _ _)).trans (placeEntry_latches _ _ _ _ _)
    · exact .refl s
  · exact .refl s

/-! ## Identification -/

theorem assignEntry_latches (seq : Nat) (s : State) : s.KeepsLatches (s.assignEntry seq) := by
  unfold assignEntry
  dsimp only
  split
  · exact (updateEntry_latches _ _ s).trans (updateContext_latches _ _ _)
  · exact updateEntry_latches _ _ s

theorem resolveCard_latches (seq : Nat) (card : CardField) (s : State) : s.KeepsLatches (s.resolveCard seq card) :=
  (((boundary_latches card s).trans (swapTrigger_latches _)).trans (writeOpeningGeneration_latches _)).trans
    (updateEntry_latches _ _ _)

theorem resolve_latches (seq : Nat) (r : Resolution) (s : State) : s.KeepsLatches (s.resolve seq r) := by
  unfold resolve
  extract_lets u v
  have identified : s.KeepsLatches u := updateEntry_latches _ _ s
  have assigned : u.KeepsLatches v := by
    clear_value u
    dsimp only [v]
    split
    · exact .ite (fun _ => resolveCard_latches _ _ _) fun _ => assignEntry_latches _ _
    · exact assignEntry_latches _ _
  exact (identified.trans assigned).trans (route_latches seq v)

theorem resolveUnidentified_latches (seqs : List Nat) (s : State) : s.KeepsLatches (s.resolveUnidentified seqs) :=
  .foldl (fun s _ => .ite (fun _ => resolve_latches _ _ s) fun _ => .refl s) seqs s

theorem expireDecision_latches (seq : Nat) (s : State) : s.KeepsLatches (s.expireDecision seq) := by
  unfold expireDecision
  split
  · exact .ite (fun _ => (resolveUnidentified_latches _ s).trans (resolveUnidentified_latches _ _)) fun _ => .refl s
  · exact .refl s

theorem takeFrame_latches (r : RawNote) (s : State) : s.KeepsLatches (s.takeFrame r) := by
  unfold takeFrame
  split
  · exact (resolveUnidentified_latches _ s).trans (.ite (fun _ => resolve_latches _ _ _) fun _ => .refl _)
  · exact .ite (fun _ => bump_latches _ s) fun _ => bump_latches _ s

/-! ## Creation of an entry -/

theorem armIdle_latches (s : State) : s.KeepsLatches s.armIdle := .ite (fun _ => .refl s) fun _ => {}

theorem tiePredecessor_latches (e : Entry) (s : State) : s.KeepsLatches (s.tiePredecessor e) :=
  .ite (fun _ => (updateEntry_latches _ _ s).trans (replan_latches _ _)) fun _ => updateEntry_latches _ _ s

theorem createEntry_latches (lead : Position) (s : State) : s.KeepsLatches (s.createEntry lead) := by
  unfold createEntry
  extract_lets pred e trk t t' t''
  have joined : s.KeepsLatches t := setTrk_latches _ s
  have armed : s.KeepsLatches t' := (joined.trans (holdWhile_latches _ t)).trans (armIdle_latches _)
  have tied : t'.KeepsLatches t'' := by
    clear_value t' pred
    cases pred with
    | some q => exact tiePredecessor_latches q t'
    | none => exact .refl t'
  exact (armed.trans tied).trans (expireDecision_latches _ _)

theorem settleObject_latches (lead : Position) (s : State) : s.KeepsLatches (s.settleObject lead) :=
  .ite (fun _ => bump_latches _ s) fun _ => .ite (fun _ => bump_latches _ s) fun _ =>
    .ite (fun _ => (bump_latches _ s).trans (haltCause_latches _ _)) fun _ => createEntry_latches lead s

/-! ## The end of an event -/

/-- R188: a placed EVENT frame leaves ATTN and is no longer owed; no other placement touches the event unit. -/
theorem choose_attn (h : s.AttnFollows) : s.choose.AttnFollows := by
  unfold choose
  split
  · exact h
  · split
    · exact h
    · split
      · exact h.congr (by simp [placeOrder])
      · split
        · exact h.congr (by simp [placeRecord])
        · split
          · exact ⟨h.1, fun owed => absurd owed Bool.false_ne_true⟩
          · split <;> exact h

theorem settle_attn (h : s.AttnFollows) : s.settle.AttnFollows := by
  have heldBack {u : State} (hu : u.AttnFollows) : u.heldBack.AttnFollows := hu.congr (by simp)
  have near {u : State} (hu : u.AttnFollows) : u.nearFullTest.AttnFollows := by
    unfold nearFullTest
    split
    · split
      · exact hu
      · exact attnFollows_withSets _ _ _
    · exact hu
  have idle {u : State} (hu : u.AttnFollows) : u.feedIdleTest.AttnFollows := by
    unfold feedIdleTest
    split
    · exact attnFollows_withSets _ _ _
    · exact hu
  have arbitrate {u : State} (hu : u.AttnFollows) : u.arbitrate.AttnFollows := by
    unfold State.arbitrate
    split
    · exact hu
    · exact choose_attn hu
  have backlog {u : State} (hu : u.AttnFollows) : u.backlogTest.AttnFollows := by
    unfold backlogTest
    split
    · exact hu
    · split <;> exact hu
  exact backlog (near (heldBack (arbitrate (idle (near (heldBack h))))))

theorem settle_latches (s : State) : s.KeepsLatches s.settle := .of_agrees (settle_steady s) settle_attn

/-! ## The inbound side -/

theorem setLnk_latches (l : LinkInterface) (s : State) : s.KeepsLatches { s with lnk := l } := {}

theorem setCmp_latches (c : CommandProcessor) (s : State) : s.KeepsLatches { s with cmp := c } := {}

theorem setIdu_latches (i : Identification) (s : State) : s.KeepsLatches { s with idu := i } := {}

/-- What is counted and raised. -/
theorem bump_raise_latches (c : Counter) (x : EventKind) (s : State) : s.KeepsLatches ((s.bump c).raise x) :=
  (bump_latches c s).trans (raise_latches x _)

theorem linkError_latches (s : State) : s.KeepsLatches s.linkError := bump_raise_latches _ _ s

theorem offerCommand_latches (q : QueuedCommand) (s : State) : s.KeepsLatches (s.offerCommand q) :=
  .ite (fun _ => setCmp_latches _ s) fun _ => bump_raise_latches _ _ s

theorem offerForward_latches (bytes : List Byte) (s : State) : s.KeepsLatches (s.offerForward bytes) :=
  .ite (fun _ => setLnk_latches _ s) fun _ => bump_raise_latches _ _ s

theorem admitNote_latches (r : RawNote) (s : State) : s.KeepsLatches (s.admitNote r) :=
  .ite (fun _ => bump_latches _ s) fun _ => .ite (fun _ => setIdu_latches _ s) fun _ =>
    (((setIdu_latches _ s).trans (bump_latches _ _)).trans (hold_latches _)).trans (raise_latches _ _)

theorem handNote_latches (src : Byte) (payload : List Byte) (s : State) : s.KeepsLatches (s.handNote src payload) :=
  .ite (fun _ => bump_latches _ s) fun _ => .ite (fun _ => admitNote_latches _ s) fun _ => bump_latches _ s

theorem strapOk_latches (k : PocketNo) (s : State) : s.KeepsLatches (s.strapOk k) := by
  have issued : s.KeepsLatches (s.strapped k) := (issueRecord_latches k .strapped s).trans (putPocket_latches k _ _)
  exact .ite (fun _ => issued.trans (faultPocket_latches k _)) fun _ => issued.trans (startBundle_latches k _)

theorem strapFailed_latches (k : PocketNo) (s : State) : s.KeepsLatches (s.strapFailed k) :=
  ((issueRecord_latches k .strapFailed s).trans (raise_latches _ _)).trans (faultPocket_latches k _)

theorem handStrap_latches (src : Byte) (payload : List Byte) (s : State) : s.KeepsLatches (s.handStrap src payload) := by
  unfold handStrap
  split
  · exact .ite (fun _ => strapOk_latches _ s) fun _ => strapFailed_latches _ s
  · exact bump_raise_latches _ _ s

theorem sortOwn_latches (src kind corr : Byte) (payload : List Byte) (s : State) :
    s.KeepsLatches (s.sortOwn src kind corr payload) := by
  unfold sortOwn
  refine .ite (fun _ => linkError_latches s) fun _ => .ite (fun _ => handNote_latches _ _ s) fun _ => .ite (fun _ => ?_)
    fun _ => .ite (fun _ => linkError_latches s) fun _ => offerCommand_latches _ s
  exact .ite (fun _ => handStrap_latches _ _ s) fun _ => linkError_latches s

theorem sortBroadcast_latches (whole : List Byte) (src kind corr : Byte) (payload : List Byte) (s : State) :
    s.KeepsLatches (s.sortBroadcast whole src kind corr payload) :=
  .ite (fun _ => (offerForward_latches whole s).trans (offerCommand_latches _ _)) fun _ => offerForward_latches whole s

theorem sortFrame_latches (got : List Byte) (s : State) : s.KeepsLatches (s.sortFrame got) := by
  unfold sortFrame
  exact .ite (fun _ => sortBroadcast_latches _ _ _ _ _ s) fun _ => .ite (fun _ => sortOwn_latches _ _ _ _ s)
    fun _ => offerForward_latches _ s

theorem receiveByte_latches (s : State) (b : Byte) : s.KeepsLatches (s.receiveByte b) := by
  have received (r : Receiver) : s.KeepsLatches (s.setReceiver r) := setLnk_latches _ s
  have discarded := ((received .hunting).trans (linkError_latches _)).trans (settle_latches _)
  unfold receiveByte
  split
  · exact .ite (fun _ => received _) fun _ => .refl s
  · exact .ite (fun _ => discarded) fun _ => .ite (fun _ => received _) fun _ =>
      .ite (fun _ => ((received .hunting).trans (sortFrame_latches _ _)).trans (settle_latches _)) fun _ => discarded

end State
end Sys2Proof.Machine

/-! SUPPORT. The latches under every command, and with them LatchesKept. -/

namespace Sys2Proof.Machine

/- One theorem at a time: many at once exhaust the threads. -/
set_option Elab.async false

namespace State

variable {s t u : State} {k : PocketNo}

/-! ## The take of a command -/

/-- What a command leaves keeps the latches. -/
def ActsLatched (s : State) (r : State × Answer) : Prop := s.KeepsLatches r.1

theorem ActsLatched.ite {c : Prop} [Decidable c] {a b : State × Answer} (h : c → s.ActsLatched a)
    (g : ¬ c → s.ActsLatched b) : s.ActsLatched (if c then a else b) := by
  split
  · exact h ‹_›
  · exact g ‹_›

theorem refuse_latched (s : State) (c : RefusalCode) : s.ActsLatched (s.refuse c) := .refl s
theorem refuseCheck_latched (s : State) (c : RefusalCode) (n : Nat) : s.ActsLatched (s.refuseCheck c n) := .refl s
theorem carriedOut_latched (h : s.KeepsLatches t) : s.ActsLatched t.carriedOut := h
theorem reportPage_latched (s : State) (page : List Byte) : s.ActsLatched (s.reportPage page) := .refl s

theorem takeCommand_latches {act : Act} (h : ∀ (q : QueuedCommand) (s : State), s.ActsLatched (act q s)) (row : Instr)
    (s : State) : s.KeepsLatches (s.takeCommand row act) := by
  unfold takeCommand
  split
  · exact .refl s
  · next q rest _ =>
    refine .ite (fun _ => ?_) fun _ => .refl s
    have answered (a : Answer) (u : State) : u.KeepsLatches (u.answer q a) :=
      .ite (fun _ => .refl u) fun _ => setCmp_latches _ u
    have acted := h q { s with cmp := { s.cmp with commands := rest } }
    exact (((setCmp_latches _ s).trans acted).trans (answered _ _)).trans (settle_latches _)

theorem needLength_latched {act : Act} (n : Nat) (h : ∀ (q : QueuedCommand) (s : State), s.ActsLatched (act q s))
    (q : QueuedCommand) (s : State) : s.ActsLatched (needLength n act q s) :=
  .ite (fun _ => h q s) fun _ => refuse_latched s _

theorem onPocket_latched {act : PocketNo → State → State × Answer} (h : ∀ (k : PocketNo) (s : State), s.ActsLatched (act k s))
    (q : QueuedCommand) (s : State) : s.ActsLatched (onPocket act q s) := by
  unfold onPocket
  split
  · exact h _ s
  · exact refuse_latched s _

/-! ## Tables, parameters and deposits -/

theorem setShadow_latches (b : Bank) (s : State) : s.KeepsLatches { s with tbs := { s.tbs with shadow := b } } := {}

theorem setSwapPending_latches (b : Bool) (s : State) :
    s.KeepsLatches { s with tbs := { s.tbs with swapPending := b } } := {}

theorem loadTable_latched (q : QueuedCommand) (s : State) : s.ActsLatched (actLoadTable q s) :=
  .ite (fun _ => refuse_latched s _) fun _ => .ite (fun _ => refuse_latched s _) fun _ =>
    .ite (fun _ => refuse_latched s _) fun _ => carriedOut_latched (setShadow_latches _ s)

theorem copy_latched (q : QueuedCommand) (s : State) : s.ActsLatched (actCopy q s) :=
  .ite (fun _ => refuse_latched s _) fun _ => .ite (fun _ => refuse_latched s _)
    fun _ => carriedOut_latched (setShadow_latches _ s)

theorem commit_latched (q : QueuedCommand) (s : State) : s.ActsLatched (actCommit q s) := by
  refine .ite (fun _ => refuse_latched s _) fun _ => ?_
  split
  · exact refuseCheck_latched s _ _
  · exact KeepsLatches.ite (fun _ => swap_latches s) fun _ => setSwapPending_latches _ s

theorem cancel_latched (q : QueuedCommand) (s : State) : s.ActsLatched (actCancel q s) :=
  .ite (fun _ => carriedOut_latched (setSwapPending_latches _ s)) fun _ => refuse_latched s _

theorem setParameters_latches (p : LineParameters) (s : State) : s.KeepsLatches (s.setParameters p) := {}

theorem setLineParameters_latched (q : QueuedCommand) (s : State) : s.ActsLatched (actSetLineParameters q s) := by
  refine .ite (fun _ => refuse_latched s _) fun _ => ?_
  split
  · exact refuseCheck_latched s _ _
  · exact carriedOut_latched (setParameters_latches _ s)

theorem declare_latched (q : QueuedCommand) (s : State) : s.ActsLatched (actDeclare q s) := by
  unfold actDeclare
  exact .ite (fun _ => refuse_latched s _) fun _ => .ite (fun _ => refuse_latched s _) fun _ =>
    .ite (fun _ => refuse_latched s _) fun _ => .ite (fun _ => refuse_latched s _) fun _ =>
    .ite (fun _ => refuse_latched s _) fun _ => .ite (fun _ => refuse_latched s _)
    fun _ => carriedOut_latched (setDpu_latches _ s)

theorem withdraw_latched (q : QueuedCommand) (s : State) : s.ActsLatched (actWithdraw q s) :=
  .ite (fun _ => carriedOut_latched (setDpu_latches _ s)) fun _ => refuse_latched s _

theorem forceDepositEnd_latched (q : QueuedCommand) (s : State) : s.ActsLatched (actForceDepositEnd q s) :=
  .ite (fun _ => refuse_latched s _)
    fun _ => carriedOut_latched ((endActive_latches .forced s).trans (swapTrigger_latches _))

/-! ## The line -/

/-- R144: RUN is entered with LINE_NOT_RUN released. -/
theorem enterRun_latches (h : s.lsv.line ≠ .standby ∧ s.lsv.line.isHalt = false) : s.KeepsLatches s.enterRun := by
  have released : s.enterRun.held .lineNotRun = false := held_release_self _ _
  exact setLine_latches (l := .run) (w := setDrop s.lsv.holds _) h (by decide)
    fun _ => iff_of_false (Bool.eq_false_iff.mp released) (by simp)

theorem run_latched (q : QueuedCommand) (s : State) : s.ActsLatched (actRun q s) := by
  unfold actRun
  split <;> rename_i hl
  · exact carriedOut_latched (enterRun_latches (by simp [hl, LineState.isHalt]))
  · exact carriedOut_latched (enterRun_latches (by simp [hl, LineState.isHalt]))
  · exact carriedOut_latched (.refl s)
  all_goals exact refuse_latched s _

/-- R145: RUN is left with LINE_NOT_RUN held, for DRAIN or, where a pending swap then takes place, for READY. -/
theorem stopFeeding_latches (h : s.lsv.line = .run) : s.KeepsLatches s.stopFeeding := by
  have held : (s.hold .lineNotRun).held .lineNotRun = true := held_hold_self _ _
  have left {l : LineState} (after : l ≠ .standby ∧ l.isHalt = false) (hr : l ≠ .run) : s.KeepsLatches
      { s with lsv := { s.lsv with line := l, holds := setAdd s.lsv.holds FeedReason.lineNotRun.code } } :=
    setLine_latches (by simp [h, LineState.isHalt]) after fun _ => iff_of_true held hr
  exact .ite (fun _ => (left (l := .ready) (by decide) (by decide)).trans (swapTrigger_latches _))
    fun _ => left (by decide) (by decide)

theorem stop_latched (q : QueuedCommand) (s : State) : s.ActsLatched (actStop q s) := by
  unfold actStop
  split <;> rename_i hl
  · exact carriedOut_latched (stopFeeding_latches hl)
  · exact carriedOut_latched (.refl s)
  · exact carriedOut_latched (.refl s)
  all_goals exact refuse_latched s _

theorem halt_latched (q : QueuedCommand) (s : State) : s.ActsLatched (actHalt q s) :=
  .ite (fun _ => refuse_latched s _) fun _ => carriedOut_latched (haltCause_latches _ s)

/-- R154: the line leaves HALT with the stop request, the reason and the further causes cleared. -/
theorem resume_latches (h : s.lsv.line = .haltStopped) : s.KeepsLatches s.resume := by
  have left : s.KeepsLatches { s with lsv := { s.lsv with
      stopRequest := false, reason := none, further := 0, line := .ready } } := {
    line := fun hs => iff_of_true (hs.mpr (by simp [h])) LineState.noConfusion
    halt := fun _ => ⟨rfl, rfl, fun _ => rfl, fun _ none => nomatch none⟩
    standby := fun hs => iff_of_false LineState.noConfusion (mt hs.mpr (by simp [h])) }
  exact left.trans (swapTrigger_latches _)

theorem resume_latched (q : QueuedCommand) (s : State) : s.ActsLatched (actResume q s) :=
  .ite (fun h => carriedOut_latched (resume_latches h)) fun _ => refuse_latched s _

theorem clear_latched (q : QueuedCommand) (s : State) : s.ActsLatched (actClear q s) :=
  .ite (fun _ => carriedOut_latched (((setDpu_latches _ s).trans (clearPockets_latches _)).trans (swapTrigger_latches _)))
    fun _ => refuse_latched s _

theorem feedHoldSet_latched (q : QueuedCommand) (s : State) : s.ActsLatched (actFeedHoldSet q s) :=
  carriedOut_latched (hold_latches s)

theorem feedHoldClear_latched (q : QueuedCommand) (s : State) : s.ActsLatched (actFeedHoldClear q s) :=
  carriedOut_latched (release_latches s)

theorem intakeRestart_latched (q : QueuedCommand) (s : State) : s.ActsLatched (actIntakeRestart q s) :=
  carriedOut_latched ((setIdu_latches _ s).trans (release_latches _))

/-! ## Pocket control -/

theorem inhibit_latched (k : PocketNo) (s : State) : s.ActsLatched (actInhibit k s) :=
  .ite (fun _ => carriedOut_latched (putPocket_latches k _ s)) fun _ => refuse_latched s _

theorem release_latched (k : PocketNo) (s : State) : s.ActsLatched (actRelease k s) :=
  .ite (fun _ => carriedOut_latched (reenterPocket_latches k _ s)) fun _ => refuse_latched s _

theorem closeShort_latched (k : PocketNo) (s : State) : s.ActsLatched (actCloseShort k s) :=
  .ite (fun _ => carriedOut_latched (reenterPocket_latches k _ s)) fun _ => refuse_latched s _

theorem clearFault_latches (k : PocketNo) (s : State) : s.KeepsLatches (s.clearFault k) := by
  have issued : s.KeepsLatches (if 0 < (s.pocket k).held then s.issueRecord k .discardedFault else s) :=
    .ite (fun _ => issueRecord_latches k _ s) fun _ => .refl s
  exact (issued.trans (storePocket_latches k _ _)).trans (startBundle_latches k _)

theorem pocketClear_latched (k : PocketNo) (s : State) : s.ActsLatched (actPocketClear k s) :=
  .ite (fun _ => refuse_latched s _) fun _ => .ite (fun _ => refuse_latched s _) fun _ =>
    .ite (fun _ => .ite (fun _ => refuse_latched s _) fun _ => carriedOut_latched (clearFault_latches k s))
      fun _ => carriedOut_latched (reenterPocket_latches k _ s)

/-! ## Reports -/

theorem enableSet_latched (q : QueuedCommand) (s : State) : s.ActsLatched (actEnableSet q s) :=
  carriedOut_latched (withSets_latches _ _ s)

theorem enableClear_latched (q : QueuedCommand) (s : State) : s.ActsLatched (actEnableClear q s) :=
  carriedOut_latched (withSets_latches _ _ s)

theorem eventClear_latched (q : QueuedCommand) (s : State) : s.ActsLatched (actEventClear q s) :=
  carriedOut_latched (withSets_latches _ _ s)

theorem countersClear_latched (q : QueuedCommand) (s : State) : s.ActsLatched (actCountersClear q s) := by
  have cleared (r : RoutingEngine) (v : Vector Nat 13) :
      s.KeepsLatches { s with rte := r, evu := { s.evu with counters := v } } := {}
  exact carriedOut_latched (cleared _ _)

theorem queryPocket_latched (q : QueuedCommand) (s : State) : s.ActsLatched (actQueryPocket q s) := by
  unfold actQueryPocket
  split
  · exact storePocket_latches _ _ s
  · exact refuse_latched s _

theorem codeRefusal_latched (q : QueuedCommand) (s : State) : s.ActsLatched (actCodeRefusal q s) :=
  .ite (fun _ => refuse_latched s _) fun _ => refuse_latched s _

/-! ## The belt -/

theorem reset_latches (straps : BitVec 6) (eye run : Bool) (arrival empty stack : BitVec 16) (s : State) :
    s.KeepsLatches (s.afterReset straps eye run arrival empty stack) := by
  obtain ⟨attn, held, halt, standby⟩ := afterReset_latches straps eye run arrival empty stack s
  exact ⟨fun _ => held, fun _ => halt, fun _ => standby, fun _ => attn⟩

theorem clearingEdge_latches (s : State) : s.KeepsLatches s.clearingEdge := by
  have cleared : s.KeepsLatches s.clearEye := setTrk_latches _ s
  unfold clearingEdge
  split
  · exact .refl s
  · exact (cleared.trans (bump_latches _ _)).trans (settle_latches _)
  · exact (cleared.trans (settleObject_latches _ _)).trans (settle_latches _)

theorem jam_latches (s : State) : s.KeepsLatches s.jam := by
  unfold jam
  split
  · exact .ite (fun _ => ((setTrk_latches _ s).trans (haltCause_latches _ _)).trans (settle_latches _)) fun _ => .refl s
  all_goals exact .refl s

theorem idleMark_latches (s : State) : s.KeepsLatches s.idleMarkReached := by
  have reached : s.KeepsLatches { s with lsv := { s.lsv with idleReached := true } } := {}
  unfold idleMarkReached
  split
  · exact .ite (fun _ => reached.trans (settle_latches _)) fun _ => .refl s
  · exact .refl s

/-- An operation with the end of its event, where it is due. -/
theorem settled_latches {c : Prop} [Decidable c] (h : s.KeepsLatches t) : s.KeepsLatches (if c then t.settle else s) :=
  .ite (fun _ => h.trans (settle_latches t)) fun _ => .refl s

/-! ## Eyes, straps and RUNNING -/

theorem arrival_latches (k : PocketNo) (s : State) : s.KeepsLatches ((s.setArrivalEye k true).arrive k).settle := by
  have arrived (u : State) : u.KeepsLatches (u.arrive k) := by
    unfold arrive
    split
    · exact deliverEntry_latches k _ u
    · exact (strayPocket_latches k u).trans (haltCause_latches _ _)
  exact ((storePocket_latches k _ s).trans (arrived _)).trans (settle_latches _)

theorem notesTaken_latches (k : PocketNo) (s : State) : s.KeepsLatches (s.notesTaken k) :=
  .ite (fun _ => .refl s) fun _ => .ite (fun _ => faultPocket_latches k s) fun _ =>
    .ite (fun _ => .ite (fun _ => faultPocket_latches k s) fun _ => putPocket_latches k _ s) fun _ => .refl s

theorem emptyEdgeActs_latches (k : PocketNo) (active : Bool) (s : State) : s.KeepsLatches (s.emptyEdgeActs k active) := by
  have taken : s.KeepsLatches (if active then s else s.notesTaken k) :=
    .ite (fun _ => .refl s) fun _ => notesTaken_latches k s
  have faulted {c : Prop} [Decidable c] : s.KeepsLatches (if c then s.faultPocket k else s) :=
    .ite (fun _ => faultPocket_latches k s) fun _ => .refl s
  unfold emptyEdgeActs
  split
  · exact putPocket_latches k _ s
  · exact taken
  · exact taken
  · exact taken
  · exact .ite (fun _ => .refl s) fun _ => faulted
  · exact .ite (fun _ => .refl s) fun _ => faulted
  all_goals exact .refl s

theorem emptyEyeEdge_latches (k : PocketNo) (active : Bool) (s : State) :
    s.KeepsLatches ((s.noteEmptyEdge k active).emptyEdgeActs k active).settle :=
  (((storePocket_latches k _ s).trans (raise_latches _ _)).trans (emptyEdgeActs_latches k active _)).trans
    (settle_latches _)

theorem stackEyeEdge_latches (k : PocketNo) (active : Bool) (s : State) :
    s.KeepsLatches ((s.noteStackEdge k active).stackEdgeActs k).settle := by
  have acts (u : State) : u.KeepsLatches (u.stackEdgeActs k) :=
    .ite (fun _ => putPocket_latches k _ u) fun _ => .refl u
  exact (((storePocket_latches k _ s).trans (raise_latches _ _)).trans (acts _)).trans (settle_latches _)

theorem setRunning_latches (level : Bool) (s : State) : s.KeepsLatches (s.setRunning level) := {}

theorem runningFalls_latches (s : State) : s.KeepsLatches s.runningFalls := by
  have stops : s.KeepsLatches s.transportStops := .ite (fun _ => .refl s) fun _ => haltCause_latches _ s
  unfold runningFalls
  split
  · exact stops
  · exact stops
  · exact stopEvent_latches s
  all_goals exact .refl s

theorem intakeTake_latches (s : State) : s.KeepsLatches s.intakeTake := by
  unfold intakeTake
  split
  · exact ((setIdu_latches _ s).trans (takeFrame_latches _ _)).trans (settle_latches _)
  · exact .refl s

theorem strapTimeout_latches (k : PocketNo) (s : State) : s.KeepsLatches (s.strapTimeout k) :=
  (issueRecord_latches k .strapTimeout s).trans (faultPocket_latches k _)

/-! ## Every step -/

/-- Each command of the block keeps the latches: its meaning is a chain of operations that do. -/
theorem exec_latches (i : Instr) (s : State) : ∃ t, exec i s = .next t ∧ s.KeepsLatches t :=
  match i with
  | .reset _ _ _ _ _ _ => ⟨_, rfl, reset_latches _ _ _ _ _ _ s⟩
  | .encoderPulse => ⟨_, rfl, setTrk_latches _ s⟩
  | .entryEyeBlockingEdge => ⟨_, rfl, setTrk_latches _ s⟩
  | .entryEyeClearingEdge => ⟨_, rfl, clearingEdge_latches s⟩
  | .jamMarkExpiry => ⟨_, rfl, jam_latches s⟩
  | .decisionPointExpiry seq => ⟨_, rfl, settled_latches (expireDecision_latches seq s)⟩
  | .gateOnExpiry seq => ⟨_, rfl, expireGateOn_latches seq s⟩
  | .gateOffExpiry seq => ⟨_, rfl, expireGateOff_latches seq s⟩
  | .windowEndExpiry seq => ⟨_, rfl, settled_latches (expireWindow_latches seq s)⟩
  | .idleMarkReached => ⟨_, rfl, idleMark_latches s⟩
  | .arrival k => ⟨_, rfl, arrival_latches k s⟩
  | .arrivalEyeClearingEdge k => ⟨_, rfl, storePocket_latches k _ s⟩
  | .emptyEyeEdge k active => ⟨_, rfl, emptyEyeEdge_latches k active s⟩
  | .stackEyeEdge k active => ⟨_, rfl, stackEyeEdge_latches k active s⟩
  | .runningFallingEdge =>
    ⟨_, rfl, ((setRunning_latches false s).trans (runningFalls_latches _)).trans (settle_latches _)⟩
  | .runningRisingEdge => ⟨_, rfl, (setRunning_latches true s).trans (settle_latches _)⟩
  | .stopEvent => ⟨_, rfl, settled_latches (stopEvent_latches s)⟩
  | .linkFrameReceived bytes => ⟨_, rfl, .foldl receiveByte_latches bytes s⟩
  | .intakeTake => ⟨_, rfl, intakeTake_latches s⟩
  | .strapTimerExpiry k => ⟨_, rfl, settled_latches (strapTimeout_latches k s)⟩
  | .transmissionEnd => ⟨_, rfl, settled_latches (setLnk_latches _ s)⟩
  | .loadTable => ⟨_, rfl, takeCommand_latches loadTable_latched _ s⟩
  | .copyActiveToShadow => ⟨_, rfl, takeCommand_latches (needLength_latched 0 copy_latched) _ s⟩
  | .commitTables => ⟨_, rfl, takeCommand_latches (needLength_latched 0 commit_latched) _ s⟩
  | .cancelCommit => ⟨_, rfl, takeCommand_latches (needLength_latched 0 cancel_latched) _ s⟩
  | .setLineParameters => ⟨_, rfl, takeCommand_latches (needLength_latched 196 setLineParameters_latched) _ s⟩
  | .declare => ⟨_, rfl, takeCommand_latches declare_latched _ s⟩
  | .withdraw => ⟨_, rfl, takeCommand_latches (needLength_latched 4 withdraw_latched) _ s⟩
  | .lineControlRun => ⟨_, rfl, takeCommand_latches run_latched _ s⟩
  | .lineControlStop => ⟨_, rfl, takeCommand_latches stop_latched _ s⟩
  | .lineControlHalt => ⟨_, rfl, takeCommand_latches halt_latched _ s⟩
  | .lineControlResume => ⟨_, rfl, takeCommand_latches resume_latched _ s⟩
  | .lineControlClear => ⟨_, rfl, takeCommand_latches clear_latched _ s⟩
  | .unknownKind => ⟨_, rfl, takeCommand_latches (fun _ s => refuse_latched s _) _ s⟩
  | .forceDepositEnd => ⟨_, rfl, takeCommand_latches (needLength_latched 0 forceDepositEnd_latched) _ s⟩
  | .pocketControlInhibit => ⟨_, rfl, takeCommand_latches (onPocket_latched inhibit_latched) _ s⟩
  | .pocketControlRelease => ⟨_, rfl, takeCommand_latches (onPocket_latched release_latched) _ s⟩
  | .pocketControlCloseShort => ⟨_, rfl, takeCommand_latches (onPocket_latched closeShort_latched) _ s⟩
  | .pocketControlClear => ⟨_, rfl, takeCommand_latches (onPocket_latched pocketClear_latched) _ s⟩
  | .feedHoldSet => ⟨_, rfl, takeCommand_latches feedHoldSet_latched _ s⟩
  | .feedHoldClear => ⟨_, rfl, takeCommand_latches feedHoldClear_latched _ s⟩
  | .intakeRestart => ⟨_, rfl, takeCommand_latches (needLength_latched 0 intakeRestart_latched) _ s⟩
  | .eventEnableSet => ⟨_, rfl, takeCommand_latches enableSet_latched _ s⟩
  | .eventEnableClear => ⟨_, rfl, takeCommand_latches enableClear_latched _ s⟩
  | .eventClear => ⟨_, rfl, takeCommand_latches (needLength_latched 2 eventClear_latched) _ s⟩
  | .countersClear => ⟨_, rfl, takeCommand_latches (needLength_latched 0 countersClear_latched) _ s⟩
  | .statusQueryLine => ⟨_, rfl, takeCommand_latches (fun _ s => reportPage_latched s _) _ s⟩
  | .statusQueryPocket => ⟨_, rfl, takeCommand_latches queryPocket_latched _ s⟩
  | .statusQueryDeposits => ⟨_, rfl, takeCommand_latches (fun _ s => reportPage_latched s _) _ s⟩
  | .statusQueryTransit => ⟨_, rfl, takeCommand_latches (fun _ s => reportPage_latched s _) _ s⟩
  | .statusQueryCounters => ⟨_, rfl, takeCommand_latches (fun _ s => reportPage_latched s _) _ s⟩
  | .statusQueryWatch => ⟨_, rfl, takeCommand_latches (fun _ s => reportPage_latched s _) _ s⟩
  | .parameterCodeRefusal => ⟨_, rfl, takeCommand_latches codeRefusal_latched _ s⟩

theorem step_latches (h : step s = .next t) : s.KeepsLatches t := by
  unfold step at h
  split at h
  · obtain rfl : s = t := Host.Outcome.next.inj h
    exact .refl s
  · next i rest _ =>
    obtain ⟨u, hu, kept⟩ := exec_latches i (s.withPending rest)
    obtain rfl : u = t := Host.Outcome.next.inj (hu.symm.trans h)
    have queued : s.KeepsLatches (s.withPending rest) := {}
    exact queued.trans kept

end State
end Sys2Proof.Machine

section
open Sys2Proof Sys2Proof.Machine

/-- Settles O6: every operation of the part keeps each of the four invariants (`State.KeepsLatches`), so every step, a chain of
them, does. -/
theorem latchesKept : Obligations.LatchesKept := by
  intro s t h
  obtain ⟨line, halt, standby, attn⟩ := State.step_latches h
  exact ⟨line, halt, standby, attn⟩

end

/-! SUPPORT. Line counters, feed-hold reasons, halt causes, LINE_CONTROL RUN and STOP and the idle mark, and the statements about
them. -/

namespace Sys2Proof.Machine

/- One theorem at a time: many at once exhaust the threads. -/
set_option Elab.async false

variable {s t : State} {q : QueuedCommand} {rest : List QueuedCommand}

/-! ## Line counters and feed-hold reasons (R190, R156) -/

theorem Counter.index_injective {c d : Counter} (h : c.index = d.index) : c = d := by
  revert h
  cases c <;> cases d <;> decide

/-- Table 8-5: every bit of the reason set is a reason. -/
theorem FeedReason.exists_code {i : Nat} (h : i < 8) : ∃ r : FeedReason, r.code = i :=
  match i, h with
  | 0, _ => ⟨.lineNotRun, rfl⟩
  | 1, _ => ⟨.transitFull, rfl⟩
  | 2, _ => ⟨.intakeOverrun, rfl⟩
  | 3, _ => ⟨.classBlocked, rfl⟩
  | 4, _ => ⟨.looseNearFull, rfl⟩
  | 5, _ => ⟨.contextShortage, rfl⟩
  | 6, _ => ⟨.recordBacklog, rfl⟩
  | 7, _ => ⟨.operator, rfl⟩

namespace State

theorem bump_counter_same (c : Counter) (s : State) : (s.bump c).evu.counters[c.index]
    = if s.evu.counters[c.index] < 65535 then s.evu.counters[c.index] + 1 else 65535 := by
  rw [bump_evu_counters, Fin.getElem_fin, Vector.getElem_set_self]
  simp only [Fin.getElem_fin]
  split <;> omega

theorem bump_counter_other {c d : Counter} (h : d ≠ c) (s : State) :
    (s.bump c).evu.counters[d.index] = s.evu.counters[d.index] := by
  have apart : c.index.val ≠ d.index.val := fun e => h (Counter.index_injective (Fin.ext e.symm))
  rw [bump_evu_counters, Fin.getElem_fin, Vector.getElem_set_ne _ _ apart]
  rfl

theorem feedHoldOutput_iff (s : State) : s.feedHoldOutput = true ↔ ∃ r, s.held r = true := by
  have none : s.lsv.holds = 0 ↔ ∀ r, s.held r = false := by
    refine ⟨fun empty r => by simp [held, setHas, empty], fun free => BitVec.eq_of_getLsbD_eq fun i hi => ?_⟩
    obtain ⟨r, rfl⟩ := FeedReason.exists_code hi
    exact (free r).trans (by simp)
  rw [feedHoldOutput, bne_iff_ne, Ne, none]
  simp

/-! ## Halt causes (R148, R149) -/

theorem haltCause_of_halt (c : HaltCause) (h : s.lsv.line = .haltStopping ∨ s.lsv.line = .haltStopped) : s.haltCause c
    = if s.lsv.reason = some c ∨ setHas s.lsv.further c.code = true then s
      else { s with lsv := { s.lsv with further := s.lsv.further ||| BitVec.twoPow 8 c.code } } := by
  have joins : s.haltCause c = if s.lsv.reason = some c then s
      else { s with lsv := { s.lsv with further := setAdd s.lsv.further c.code } } := by
    unfold haltCause
    rcases h with h | h <;> rw [h]
  rw [joins]
  by_cases reason : s.lsv.reason = some c
  · rw [if_pos reason, if_pos (.inl reason)]
  · rw [if_neg reason]
    split
    · next has => rw [setAdd_of_has (has.resolve_left reason)]
    · rfl

theorem haltCause_enters (c : HaltCause) (h : s.lsv.line = .ready ∨ s.lsv.line = .run ∨ s.lsv.line = .drain) :
    s.haltCause c = s.enterHaltStopping c := by
  unfold haltCause
  rcases h with h | h | h <;> rw [h]

/-! ## FEED_IDLE at the end of an event (R158) -/

theorem feedIdleTest_idleRaised (s : State) : s.feedIdleTest.lsv.idleRaised = (s.lsv.idleRaised || s.idleDue) := by
  unfold feedIdleTest
  split <;> simp [*]

theorem settle_idleRaised (s : State) : s.settle.lsv.idleRaised = (s.lsv.idleRaised || s.idleDue) := by
  have due : s.heldBack.nearFullTest.idleDue = s.idleDue :=
    idleDue_of_steady (by rw [steady_nearFullTest, steady_heldBack]) (by simp)
  have tested := feedIdleTest_idleRaised s.heldBack.nearFullTest
  rw [due] at tested
  simp [settle, arbitrate_idleRaised, tested]

theorem choose_pendingHas (x : EventKind) (s : State) : s.choose.pendingHas x = s.pendingHas x := by
  unfold choose
  split
  · rfl
  · split
    · rfl
    · split
      · simp [pendingHas, placeOrder]
      · split
        · simp [pendingHas, placeRecord]
        · split
          · rfl
          · split <;> rfl

theorem arbitrate_pendingHas (x : EventKind) (s : State) : s.arbitrate.pendingHas x = s.pendingHas x := by
  unfold arbitrate
  split
  · rfl
  · exact choose_pendingHas x s

theorem heldBack_pendingHas (x : EventKind) (s : State) : s.heldBack.pendingHas x = s.pendingHas x := by simp [pendingHas]

theorem nearFullTest_pendingHas {x : EventKind} (h : s.pendingHas x = true) : s.nearFullTest.pendingHas x = true := by
  unfold nearFullTest
  split
  · split
    · exact h
    · exact pendingHas_raise h _
  · exact h

theorem backlogTest_pendingHas (x : EventKind) (s : State) : s.backlogTest.pendingHas x = s.pendingHas x := by
  unfold backlogTest
  split
  · rfl
  · split <;> rfl

/-- From the placement on, the end of an event leaves pending what is pending. -/
theorem placed_pendingHas {x : EventKind} (h : s.pendingHas x = true) :
    s.arbitrate.heldBack.nearFullTest.backlogTest.pendingHas x = true := by
  rw [backlogTest_pendingHas]
  exact nearFullTest_pendingHas (by rwa [heldBack_pendingHas, arbitrate_pendingHas])

theorem settle_feedIdle (h : s.idleDue = true) : s.settle.pendingHas .feedIdle = true := by
  have due : s.heldBack.nearFullTest.idleDue = true := by
    rw [idleDue_of_steady (s := s) (by rw [steady_nearFullTest, steady_heldBack]) (by simp), h]
  refine placed_pendingHas ?_
  rw [feedIdleTest, if_pos due]
  exact pendingHas_raise_self _ _

theorem activeAssigned_iff (s : State) : s.activeAssigned = true ↔ ∃ c, s.activeContext = some c ∧ 1 ≤ c.assigned := by
  unfold activeAssigned
  split <;> simp [*]

theorem idleMarkReached_of_reached {m : Position} (hm : s.lsv.idleMark = some m) (hi : s.lsv.idleReached = false)
    (hr : (s.trk.position - m).toNat < 32768) :
    s.idleMarkReached = State.settle { s with lsv := { s.lsv with idleReached := true } } := by
  have passed : reached s.trk.position m = true := decide_eq_true hr
  simp [idleMarkReached, hm, hi, passed]

/-! ## LINE_CONTROL RUN and STOP (R144, R145) -/

theorem stopFeeding_drains (h : s.trk.queue ≠ []) : s.stopFeeding
    = { s with lsv := { s.lsv with line := .drain, holds := s.lsv.holds ||| 1#8 } } := if_neg (by simpa using h)

/-- R145, R133: with nothing in transit the line enters READY, where a pending swap takes place. -/
theorem stopFeeding_agrees (h : s.trk.queue = []) : s.stopFeeding.AgreesWith (State.swappedIfPending
    { s with lsv := { s.lsv with line := .ready, holds := s.lsv.holds ||| 1#8 } }) := by
  have ready : s.stopFeeding = State.swapTrigger { s with lsv := { s.lsv with
      line := .ready, holds := setAdd s.lsv.holds FeedReason.lineNotRun.code } } := if_pos (by simp [h])
  rw [ready]
  exact swapTrigger_agrees rfl

/-- A quiet line may drain: FEED_IDLE waits in RUN alone. -/
theorem Quiet.drains (h : s.Quiet) :
    State.Quiet { s with lsv := { s.lsv with line := .drain, holds := s.lsv.holds ||| 1#8 } } := by
  obtain ⟨pockets, near, -, slot, backlog, heldUp⟩ : (s.hold .lineNotRun).Quiet := h.hold ⟨by decide, by decide⟩
  exact ⟨pockets, near, by simp [idleDue], slot, backlog, heldUp⟩

end State

theorem actRun_runs (h : s.lsv.line = .ready ∨ s.lsv.line = .drain) : actRun q s = (s.enterRun, Answer.done) := by
  unfold actRun
  rcases h with h | h <;> rw [h] <;> rfl

theorem actRun_running (h : s.lsv.line = .run) : actRun q s = (s, Answer.done) := by
  unfold actRun
  rw [h]
  rfl

theorem actRun_refused (h : s.lsv.line = .standby ∨ s.lsv.line.isHalt = true) : actRun q s = (s, refusal .state 0) := by
  unfold actRun
  rw [LineState.isHalt_iff] at h
  rcases h with h | h | h <;> rw [h] <;> rfl

theorem actStop_stops (h : s.lsv.line = .run) : actStop q s = (s.stopFeeding, Answer.done) := by
  unfold actStop
  rw [h]
  rfl

theorem actStop_stopped (h : s.lsv.line = .ready ∨ s.lsv.line = .drain) : actStop q s = (s, Answer.done) := by
  unfold actStop
  rcases h with h | h <;> rw [h] <;> rfl

theorem actStop_refused (h : s.lsv.line = .standby ∨ s.lsv.line.isHalt = true) : actStop q s = (s, refusal .state 0) := by
  unfold actStop
  rw [LineState.isHalt_iff] at h
  rcases h with h | h | h <;> rw [h] <;> rfl

end Sys2Proof.Machine

section
open Sys2Proof Sys2Proof.Machine

/-- Settles O9: a counter is written at its own index alone, and a reason at its own bit; the bits of the set are the reasons. -/
theorem countersAndReasons : Obligations.CountersAndReasons := by
  refine ⟨fun c s => ⟨State.bump_counter_same c s, fun d h => State.bump_counter_other h s, rfl, rfl⟩, fun r s => ?_⟩
  exact ⟨⟨State.held_hold_self r s, fun o h => State.held_hold_other h s⟩,
    ⟨State.held_release_self r s, fun o h => State.held_release_other h s⟩, State.feedHoldOutput_iff s⟩

/-- Settles O10: by the line state; in HALT a cause that is already there joins the set without effect. -/
theorem haltCauseTaken : Obligations.HaltCauseTaken := by
  intro c s
  refine ⟨fun h => ?_, fun h => State.haltCause_enters c h, State.haltCause_of_halt c⟩
  unfold State.haltCause
  rw [h]

/-- Settles O24: the event sets the idle-reached flag, and its end tests for FEED_IDLE once, after what it does to the pockets. -/
theorem idleMarkReached : Obligations.IdleMarkReached := by
  intro s m hm hi hr
  have due : State.idleDue { s with lsv := { s.lsv with idleReached := true } } = true ↔ s.lsv.idleRaised = false
      ∧ s.lsv.line = .run ∧ s.lsv.running = true ∧ ∃ c, s.activeContext = some c ∧ 1 ≤ c.assigned := by
    rw [← s.activeAssigned_iff]
    simp [State.idleDue, State.activeAssigned, State.activeContext, and_assoc]
  refine ⟨_, congrArg Host.Outcome.next (State.idleMarkReached_of_reached hm hi hr), settle_steady _, ?_, fun raised fresh => ?_⟩
  · rw [State.settle_idleRaised, Bool.or_eq_true, due]
    cases s.lsv.idleRaised <;> simp
  · rw [State.settle_idleRaised, Bool.or_eq_true] at raised
    exact State.settle_feedIdle (raised.resolve_left (Bool.eq_false_iff.mp fresh))

/-- Settles O48: each command by the line state; RUN and STOP move LINE_NOT_RUN with the line, and STOP with nothing in transit
enters READY, where a pending swap takes place. -/
theorem lineRunStop : Obligations.LineRunStop := by
  intro s q rest hs hb
  refine ⟨fun hd => ⟨fun line => ?_, fun line => ?_, fun line => ?_⟩,
    fun hd => ⟨fun line queue => ?_, fun line queue => ?_, fun line => ?_, fun line => ?_⟩⟩
  · obtain ⟨t, taken, replied, settled⟩ := take_answers hd hb (actRun_runs (s := s.taken rest) line) rfl rfl
    exact ⟨t, congrArg Host.Outcome.next taken, replied, settled.agrees⟩
  · exact congrArg Host.Outcome.next (take_unchanged hs hd hb (actRun_running (s := s.taken rest) line))
  · exact congrArg Host.Outcome.next (take_unchanged hs hd hb (actRun_refused (s := s.taken rest) line))
  · have drains := (actStop_stops (q := q) (s := s.taken rest) line).trans
      (congrArg (·, Answer.done) (State.stopFeeding_drains (s := s.taken rest) queue))
    exact congrArg Host.Outcome.next (take_concluded hd hb drains hs.drains)
  · obtain ⟨t, taken, replied, settled⟩ := take_answers hd hb (actStop_stops (s := s.taken rest) line)
      (State.stopFeeding_cmp _) (by simp [State.stopFeeding, State.taken, queue])
    exact ⟨t, congrArg Host.Outcome.next taken, replied, settled.agrees.trans (State.stopFeeding_agrees queue)⟩
  · exact congrArg Host.Outcome.next (take_unchanged hs hd hb (actStop_stopped (s := s.taken rest) line))
  · exact congrArg Host.Outcome.next (take_unchanged hs hd hb (actStop_refused (s := s.taken rest) line))

end

/-! SUPPORT. The in-doubt conversion of the transit queue, entry by entry, and the statement about RUNNING and the stop event. -/

namespace Sys2Proof.Machine

/- One theorem at a time: many at once exhaust the threads. -/
set_option Elab.async false

variable {s t : State} {d : Nat} {c : Context} {e : Entry}

namespace State

/-! ## One entry (R152) -/

/-- R152: the withdrawal of a resolved entry's commitment. -/
def withdrawFor (e : Entry) (s : State) : State :=
  match e.pocket with
  | some k => s.withdraw k e.depositKey
  | none => s

theorem convertEntry_resolved (h : e.resolution.isSome = true) (s : State) :
    s.convertEntry e = ((s.withdrawFor e).countInDoubt e).dropEntry e.seq := by
  obtain ⟨r, hr⟩ := Option.isSome_iff_exists.mp h
  unfold convertEntry withdrawFor
  rw [hr] <;> cases e.pocket <;> rfl

theorem convertEntry_seen (h : e.resolution.isSome = false) (s : State) :
    s.convertEntry e = (s.bump .untrackedObjects).dropEntry e.seq := by
  have unresolved : e.resolution = none := by simpa using h
  unfold convertEntry
  rw [unresolved]

/-- What the conversion leaves alone; of the line state all but the feed-hold reasons. -/
def apart (s : State) : Identification × RoutingEngine × TableStore × LineSupervisor × LinkInterface × CommandProcessor
    × List Instr × BitVec 16 × List Declaration × Nat :=
  (s.idu, s.rte, s.tbs, { s.lsv with holds := 0 }, s.lnk, s.cmp, s.pending, s.evu.enable, s.dpu.declarations,
    s.dpu.nextDeposit)

theorem withdrawFor_apart (e : Entry) (s : State) : (s.withdrawFor e).apart = s.apart := by
  unfold withdrawFor
  split <;> simp [apart]

@[simp] theorem withdrawFor_trk (e : Entry) (s : State) : (s.withdrawFor e).trk = s.trk := by
  unfold withdrawFor
  split <;> simp

@[simp] theorem withdrawFor_dpu (e : Entry) (s : State) : (s.withdrawFor e).dpu = s.dpu := by
  unfold withdrawFor
  split <;> simp

@[simp] theorem withdrawFor_evu (e : Entry) (s : State) : (s.withdrawFor e).evu = s.evu := by
  unfold withdrawFor
  split <;> simp

theorem convertEntry_apart (s : State) (e : Entry) : (s.convertEntry e).apart = s.apart := by
  by_cases h : e.resolution.isSome = true
  · rw [convertEntry_resolved h, ← withdrawFor_apart e s]
    simp [apart]
  · rw [convertEntry_seen (by simpa using h)]
    simp [apart]

theorem convertEntry_trk (s : State) (e : Entry) : (s.convertEntry e).trk
    = { s.trk with queue := s.trk.queue.filter (fun x => x.seq != e.seq) } := by
  by_cases h : e.resolution.isSome = true
  · simp [convertEntry_resolved h, dropEntry_trk]
  · simp [convertEntry_seen (by simpa using h), dropEntry_trk]

/-! ## The commitments -/

theorem withdrawFor_committed (e : Entry) (k : PocketNo) (s : State) : ((s.withdrawFor e).pocket k).committed
    = (s.pocket k).committed - if e.pocket = some k then 1 else 0 := by
  unfold withdrawFor
  split
  · next j hj =>
    rw [hj]
    by_cases h : j = k
    · subst h
      rw [if_pos rfl, withdraw, putPocket_pocket_same, Pocket.withdraw_committed]
    · rw [if_neg (by simpa using h), withdraw, pocket_putPocket_other (Ne.symm h), Nat.sub_zero]
  · next hn => rw [hn, if_neg (by simp), Nat.sub_zero]

theorem convertEntry_committed (k : PocketNo) (s : State) (e : Entry) : ((s.convertEntry e).pocket k).committed
    = (s.pocket k).committed - if e.resolution.isSome && e.pocket == some k then 1 else 0 := by
  by_cases h : e.resolution.isSome = true
  · have dropped : Revises k ((s.withdrawFor e).countInDoubt e) (s.convertEntry e) := by
      rw [convertEntry_resolved h]
      exact .of_pockets (by simp)
    rw [((countInDoubt_revises e k _).trans dropped).committed, withdrawFor_committed, h]
    simp
  · have seen : Revises k s (s.convertEntry e) := by
      rw [convertEntry_seen (by simpa using h)]
      exact .of_pockets (by simp)
    rw [seen.committed]
    simp [h]

/-! ## The counters -/

/-- The line counter that the conversion of an entry counts on. -/
def countsOn (e : Entry) : Option Counter :=
  if e.resolution.isSome = false then some .untrackedObjects
  else if e.deposit = none ∧ e.isCard = false then some .orphanInDoubt
  else none

theorem countInDoubt_counters (e : Entry) (s : State) : (s.countInDoubt e).evu.counters
    = if e.deposit = none ∧ e.isCard = false then (s.bump .orphanInDoubt).evu.counters else s.evu.counters := by
  unfold countInDoubt
  split
  · next d hd => simp [hd]
  · next hn => cases hc : e.isCard <;> simp [hn]

theorem convertEntry_counters (s : State) (e : Entry) : (s.convertEntry e).evu.counters
    = match countsOn e with
      | some x => (s.bump x).evu.counters
      | none => s.evu.counters := by
  by_cases h : e.resolution.isSome = true
  · have counted : (s.convertEntry e).evu.counters = ((s.withdrawFor e).countInDoubt e).evu.counters := by
      simp [convertEntry_resolved h]
    rw [counted, countInDoubt_counters, countsOn]
    by_cases ho : e.deposit = none ∧ e.isCard = false <;> simp [h, ho]
  · rw [convertEntry_seen (by simpa using h), countsOn, if_pos (by simpa using h)]
    simp

theorem convertEntry_counter (x : Counter) (s : State) (e : Entry) : (s.convertEntry e).evu.counters[x.index]
    = if countsOn e = some x then min (s.evu.counters[x.index] + 1) 65535 else s.evu.counters[x.index] := by
  rw [convertEntry_counters]
  split
  · next y hy =>
    rw [hy]
    by_cases h : y = x
    · subst h
      rw [if_pos rfl, bump_counter_same]
      split <;> omega
    · rw [if_neg (by simpa using h), bump_counter_other (Ne.symm h)]
  · next hn => rw [hn, if_neg (by simp)]

/-! ## The deposits (R110, R114) -/

theorem updateContext_other {d' : Nat} {f : Context → Context} (hc : ∀ c, (f c).seq = c.seq) (h : d' ≠ d) (s : State) :
    (s.updateContext d' f).countingContext d = s.countingContext d := by
  have missed : (fun c : Context => c.counting && c.seq == d) ∘ (fun c => if c.counting = true ∧ c.seq = d' then f c else c)
      = fun c => c.counting && c.seq == d := by
    funext c
    by_cases own : c.counting = true ∧ c.seq = d'
    · simp [own, hc, h]
    · simp [own]
  unfold countingContext
  rw [updateContext_dpu_contexts, List.find?_map, missed]
  refine (Option.map_congr fun c hf => if_neg ?_).trans Option.map_id'
  obtain ⟨-, own⟩ : c.counting = true ∧ c.seq = d := by simpa using List.find?_some hf
  exact fun ⟨_, other⟩ => h (other.symm.trans own)

theorem completeDeposit_contexts (d : Nat) (s : State) : (s.completeDeposit d).dpu.contexts
    = (s.updateContext d fun c => { c with state := .recordPending }).dpu.contexts := by
  simp [completeDeposit]

/-- An operation on the contexts that keeps their sequences in place, and every completed deposit waiting. -/
structure KeepsCompleted (s t : State) : Prop where
  seqs : t.dpu.contexts.map Context.seq = s.dpu.contexts.map Context.seq
  waiting : ∀ c ∈ s.dpu.contexts, c.state = .recordPending → c ∈ t.dpu.contexts
  order : ∀ q ∈ s.dpu.completion, q ∈ t.dpu.completion

theorem KeepsCompleted.of_dpu (h : t.dpu = s.dpu) : s.KeepsCompleted t :=
  ⟨by rw [h], fun _ hm _ => by rwa [h], fun _ hm => by rwa [h]⟩

theorem KeepsCompleted.trans {u : State} (h : s.KeepsCompleted t) (g : t.KeepsCompleted u) : s.KeepsCompleted u :=
  ⟨g.seqs.trans h.seqs, fun c hm hp => g.waiting c (h.waiting c hm hp) hp, fun q hm => g.order q (h.order q hm)⟩

theorem KeepsCompleted.awaits (h : s.KeepsCompleted t) (w : AwaitsRecord c s) : AwaitsRecord c t := by
  obtain ⟨hm, hp, hc, hn⟩ := w
  exact ⟨h.waiting c hm hp, hp, h.order _ hc, by rwa [h.seqs]⟩

theorem updateContext_keepsCompleted {f : Context → Context} (hf : ∀ c, (f c).seq = c.seq) (d : Nat) (s : State) :
    s.KeepsCompleted (s.updateContext d f) := by
  have same : Context.seq ∘ (fun c => if c.counting = true ∧ c.seq = d then f c else c) = Context.seq := by
    funext c
    simp only [Function.comp]
    split <;> simp [hf]
  refine ⟨by rw [updateContext_dpu_contexts, List.map_map, same], fun c hm hp => ?_, fun _ hm => hm⟩
  exact List.mem_map.mpr ⟨c, hm, if_neg (by simp [Context.counting, hp])⟩

theorem completeDeposit_keepsCompleted (d : Nat) (s : State) : s.KeepsCompleted (s.completeDeposit d) := by
  obtain ⟨seqs, waiting, -⟩ :=
    updateContext_keepsCompleted (f := fun c => { c with state := .recordPending }) (fun _ => rfl) d s
  exact ⟨by rw [completeDeposit_contexts, seqs], by rwa [completeDeposit_contexts], fun q hm => by simp [completeDeposit, hm]⟩

theorem completionTest_keepsCompleted (d : Nat) (s : State) : s.KeepsCompleted (s.completionTest d) := by
  unfold completionTest
  split
  · split
    · exact completeDeposit_keepsCompleted d s
    · exact .of_dpu rfl
  · exact .of_dpu rfl

theorem countInDoubt_keepsCompleted (e : Entry) (s : State) : s.KeepsCompleted (s.countInDoubt e) := by
  unfold countInDoubt
  split
  · exact (updateContext_keepsCompleted (f := doubted) (fun _ => rfl) _ s).trans (completionTest_keepsCompleted _ _)
  · exact .of_dpu (by split <;> rfl)

theorem convertEntry_dpu (h : e.resolution.isSome = true) (s : State) :
    (s.convertEntry e).dpu = ((s.withdrawFor e).countInDoubt e).dpu := by
  rw [convertEntry_resolved h]
  simp

theorem convertEntry_dpu_seen (h : e.resolution.isSome = false) (s : State) : (s.convertEntry e).dpu = s.dpu := by
  rw [convertEntry_seen h]
  simp

theorem convertEntry_keepsCompleted (s : State) (e : Entry) : s.KeepsCompleted (s.convertEntry e) := by
  by_cases h : e.resolution.isSome = true
  · have withdrawn : s.KeepsCompleted (s.withdrawFor e) := .of_dpu (withdrawFor_dpu e s)
    exact (withdrawn.trans (countInDoubt_keepsCompleted e _)).trans (.of_dpu (convertEntry_dpu h s))
  · exact .of_dpu (convertEntry_dpu_seen (by simpa using h) s)

theorem countingContext_of_dpu (h : t.dpu = s.dpu) (d : Nat) : t.countingContext d = s.countingContext d := by
  rw [countingContext, countingContext, h]

theorem completionTest_other {d' : Nat} (h : d' ≠ d) (s : State) :
    (s.completionTest d').countingContext d = s.countingContext d := by
  unfold completionTest
  split
  · split
    · rw [countingContext, completeDeposit_contexts]
      exact updateContext_other (f := fun c => { c with state := .recordPending }) (fun _ => rfl) h s
    · rfl
  · rfl

/-- A note of deposit `d`: resolved, and of that deposit. -/
def isNoteOf (d : Nat) (e : Entry) : Bool := e.resolution.isSome && decide (e.deposit = some d)

theorem convertEntry_other (h : isNoteOf d e = false) (s : State) :
    (s.convertEntry e).countingContext d = s.countingContext d := by
  by_cases hr : e.resolution.isSome = true
  · have other : e.deposit ≠ some d := by simpa [isNoteOf, hr] using h
    have kept := countingContext_of_dpu (withdrawFor_dpu e s) d
    rw [countingContext_of_dpu (convertEntry_dpu hr s), ← kept, countInDoubt]
    split
    · next d' hd =>
      have apart : d' ≠ d := fun same => other (same ▸ hd)
      rw [completionTest_other apart]
      exact updateContext_other (f := doubted) (fun _ => rfl) apart _
    · split <;> rfl
  · exact countingContext_of_dpu (convertEntry_dpu_seen (by simpa using hr) s) d

theorem convertEntry_own (h : isNoteOf d e = true) (s : State) : (s.convertEntry e).dpu
    = (((s.withdrawFor e).updateContext d doubted).completionTest d).dpu := by
  obtain ⟨hr, hd⟩ : e.resolution.isSome = true ∧ e.deposit = some d := by simpa [isNoteOf] using h
  rw [convertEntry_dpu hr, countInDoubt, hd]
  rfl

/-- A deposit once completed does not count again. -/
theorem convertEntry_none (h : s.countingContext d = none) (e : Entry) : (s.convertEntry e).countingContext d = none := by
  by_cases own : isNoteOf d e = true
  · have updated := countingContext_updateContext (f := doubted) (fun _ => rfl) (fun _ => rfl) d (s.withdrawFor e)
    rw [countingContext_of_dpu (withdrawFor_dpu e s), h, Option.map_none] at updated
    rw [countingContext_of_dpu (convertEntry_own own s), completionTest, updated]
    exact updated
  · rw [convertEntry_other (by simpa using own), h]

/-! ## The whole queue -/

/-- R152: the conversion of a list of entries. -/
abbrev converted (s : State) (l : List Entry) : State := l.foldl convertEntry s

theorem converted_apart (l : List Entry) (s : State) : (s.converted l).apart = s.apart :=
  foldl_keeps apart convertEntry_apart l s

theorem converted_trk (l : List Entry) (s : State) : (s.converted l).trk
    = { s.trk with queue := s.trk.queue.filter (fun x => l.all fun e => x.seq != e.seq) } := by
  induction l generalizing s with
  | nil => simp
  | cons e l ih =>
    rw [converted, List.foldl_cons, ih, convertEntry_trk]
    simp [List.filter_filter, Bool.and_comm]

theorem converted_queue (s : State) : (s.converted s.trk.queue).trk = { s.trk with queue := [] } := by
  have all : s.trk.queue.filter (fun x => s.trk.queue.all fun e => x.seq != e.seq) = [] := by
    refine List.filter_eq_nil_iff.mpr fun x hx apart => ?_
    exact absurd (List.all_eq_true.mp apart x hx) (by simp)
  rw [converted_trk, all]

theorem converted_committed (k : PocketNo) (l : List Entry) (s : State) : ((s.converted l).pocket k).committed
    = (s.pocket k).committed - (l.filter fun e => e.resolution.isSome && e.pocket == some k).length := by
  induction l generalizing s with
  | nil => rfl
  | cons e l ih =>
    rw [converted, List.foldl_cons, ih, convertEntry_committed, List.filter_cons]
    split
    · rw [List.length_cons, Nat.sub_sub, Nat.add_comm]
    · rw [Nat.sub_zero]

/-- R190: counted once for each entry, a counter saturates as if it were counted at once. -/
theorem converted_counter (x : Counter) (l : List Entry) (s : State) : (s.converted l).evu.counters[x.index]
    = if l.filter (fun e => decide (countsOn e = some x)) = [] then s.evu.counters[x.index]
      else min (s.evu.counters[x.index] + (l.filter fun e => decide (countsOn e = some x)).length) 65535 := by
  induction l generalizing s with
  | nil => rfl
  | cons e l ih =>
    rw [converted, List.foldl_cons, ih, convertEntry_counter]
    by_cases h : countsOn e = some x
    · rw [if_pos h, List.filter_cons_of_pos (by simpa using h), if_neg (List.cons_ne_nil _ _), List.length_cons]
      split
      · next empty => rw [empty, List.length_nil, Nat.zero_add]
      · omega
    · rw [if_neg h, List.filter_cons_of_neg (by simpa using h)]

/-- R114: `n` notes of the deposit pass from in transit to in doubt. -/
def doubtedBy (n : Nat) (c : Context) : Context := { c with inTransit := c.inTransit - n, inDoubt := c.inDoubt + n }

theorem doubtedBy_doubted (n : Nat) (c : Context) : doubtedBy n (doubted c) = doubtedBy (n + 1) c := by
  simp only [doubtedBy, doubted, Nat.sub_sub, Nat.add_assoc, Nat.add_comm 1 n]

theorem converted_goesOn (l : List Entry) (h : s.countingContext d = some c)
    (hn : c.state = .active ∨ (l.filter (isNoteOf d)).length < c.inTransit ∨ (l.filter (isNoteOf d)).length = 0) :
    (s.converted l).countingContext d = some (doubtedBy (l.filter (isNoteOf d)).length c) := by
  induction l generalizing s c with
  | nil => exact h
  | cons e l ih =>
    rw [converted, List.foldl_cons]
    by_cases own : isNoteOf d e = true
    · rw [List.filter_cons_of_pos own, List.length_cons] at hn ⊢
      have counted : (s.convertEntry e).countingContext d = some (doubted c) := by
        rw [countingContext_of_dpu (convertEntry_own own s)]
        refine counted_goesOn (fun _ => rfl) (fun _ => rfl) ?_ fun (draining : c.state = .draining) => ?_
        · rw [countingContext_of_dpu (withdrawFor_dpu e s), h]
        · have left : 1 < c.inTransit := by
            rcases hn with active | more | last
            · exact absurd (active.symm.trans draining) (by decide)
            · omega
            · omega
          exact Nat.sub_pos_of_lt left
      rw [← doubtedBy_doubted]
      refine ih counted ?_
      have inTransit : (doubted c).inTransit = c.inTransit - 1 := rfl
      rw [inTransit]
      exact hn.imp id fun more => by omega
    · rw [List.filter_cons_of_neg own] at hn ⊢
      exact ih ((convertEntry_other (by simpa using own) s).trans h) hn

/-- A completed deposit stays so through the rest of the conversion. -/
theorem converted_completed (l : List Entry) (hn : s.countingContext d = none) (hw : AwaitsRecord c s) :
    (s.converted l).countingContext d = none ∧ AwaitsRecord c (s.converted l) := by
  induction l generalizing s with
  | nil => exact ⟨hn, hw⟩
  | cons e l ih => exact ih (convertEntry_none hn e) ((convertEntry_keepsCompleted s e).awaits hw)

theorem converted_completes (l : List Entry) (h : s.countingContext d = some c) (hd : c.state = .draining)
    (h0 : 0 < c.inTransit) (hn : (l.filter (isNoteOf d)).length = c.inTransit)
    (hs : (s.dpu.contexts.map Context.seq).Nodup) :
    (s.converted l).countingContext d = none
      ∧ AwaitsRecord { doubtedBy c.inTransit c with state := .recordPending } (s.converted l) := by
  induction l generalizing s c with
  | nil => exact absurd hn (by simpa using h0.ne)
  | cons e l ih =>
    rw [converted, List.foldl_cons]
    by_cases own : isNoteOf d e = true
    · rw [List.filter_cons_of_pos own, List.length_cons] at hn
      have before := withdrawFor_dpu e s
      have context : (s.withdrawFor e).countingContext d = some c := (countingContext_of_dpu before d).trans h
      by_cases last : c.inTransit = 1
      · obtain ⟨done, awaits⟩ := counted_completes (f := doubted) (fun _ => rfl) (fun _ => rfl) context hd
          (show c.inTransit - 1 = 0 by omega) (by rwa [before])
        rw [last]
        exact converted_completed l ((countingContext_of_dpu (convertEntry_own own s) d).trans done)
          (awaits.congr (convertEntry_own own s))
      · have counted : (s.convertEntry e).countingContext d = some (doubted c) := by
          rw [countingContext_of_dpu (convertEntry_own own s)]
          exact counted_goesOn (fun _ => rfl) (fun _ => rfl) context fun _ => show 0 < c.inTransit - 1 by omega
        have rest := ih counted hd (show 0 < c.inTransit - 1 by omega)
          (show (l.filter (isNoteOf d)).length = c.inTransit - 1 by omega) (by rwa [(convertEntry_keepsCompleted s e).seqs])
        rw [doubtedBy_doubted] at rest
        have all : (doubted c).inTransit + 1 = c.inTransit := show c.inTransit - 1 + 1 = c.inTransit by omega
        rwa [all] at rest
    · rw [List.filter_cons_of_neg own] at hn
      exact ih ((convertEntry_other (by simpa using own) s).trans h) hd h0 hn
        (by rwa [(convertEntry_keepsCompleted s e).seqs])

/-! ## The end of the conversion and the stop event (R151, R152) -/

/-- R152: after the entries the gates and TRANSIT_FULL. -/
def cleared (s : State) : State := (s.converted s.trk.queue).gatesOff.release .transitFull

theorem convertInDoubt_eq (s : State) : s.convertInDoubt = s.cleared.reportEmpty := rfl

/-- R133: outside DRAIN the report of an empty queue is a trigger of a pending swap. -/
theorem reportEmpty_of_stopped (h : s.lsv.line = .haltStopped) :
    s.reportEmpty = if s.activeContext.isNone then s.swapTrigger else s := by
  have still : s.lsv.line ≠ .drain := by simp [h]
  unfold reportEmpty
  dsimp only
  rw [if_neg still]

/-- A swap leaves the feed-hold reasons alone that the end of an event does not watch. -/
theorem reportEmpty_held {r : FeedReason} (h : s.lsv.line = .haltStopped) (hr : r.loose = false) :
    s.reportEmpty.held r = s.held r := by
  have swapped : s.swappedIfPending.held r = s.held r := by
    unfold swappedIfPending
    split <;> rfl
  rw [reportEmpty_of_stopped h]
  split
  · exact ((swapTrigger_agrees rfl).held r hr).trans swapped
  · rfl

theorem reportEmpty_line (h : s.lsv.line = .haltStopped) : s.reportEmpty.lsv.line = .haltStopped := by
  rw [reportEmpty_of_stopped h]
  split
  · rw [swapTrigger_line (by simp [h]), h]
  · exact h

theorem cleared_kept (s : State) : s.cleared.RestKept s ∧ s.cleared.lsv.line = s.lsv.line
    ∧ s.cleared.lsv.reason = s.lsv.reason ∧ s.cleared.lsv.further = s.lsv.further
    ∧ s.cleared.lsv.stopRequest = s.lsv.stopRequest ∧ s.cleared.lsv.stopScheduled = s.lsv.stopScheduled := by
  have kept := converted_apart s.trk.queue s
  simp only [apart, Prod.mk.injEq, LineSupervisor.mk.injEq] at kept
  obtain ⟨idu, rte, tbs, ⟨line, reason, further, -, stop, -, scheduled, -⟩, lnk, cmp, pending, enable, declarations,
    next⟩ := kept
  refine ⟨⟨idu, rte, congrArg TableStore.params tbs, enable, congrArg LinkInterface.station lnk,
    congrArg LinkInterface.receiver lnk, congrArg CommandProcessor.commands cmp, declarations, next, pending⟩,
    line, reason, further, stop, scheduled⟩

theorem reportEmpty_restKept (s : State) : s.reportEmpty.RestKept s := by simp [RestKept]

theorem countsOn_eq_untracked (e : Entry) : decide (countsOn e = some .untrackedObjects) = e.resolution.isNone := by
  unfold countsOn
  cases e.resolution <;> simp

theorem countsOn_eq_orphan (e : Entry) : decide (countsOn e = some .orphanInDoubt)
    = (e.resolution.isSome && e.deposit.isNone && !e.isCard) := by
  unfold countsOn
  split
  · next seen => simp [seen]
  · next resolved =>
    rw [Bool.not_eq_false] at resolved
    cases card : e.isCard <;> simp [resolved, ← Option.isNone_iff_eq_none]

theorem countsOn_eq_other {x : Counter} (hu : x ≠ .untrackedObjects) (ho : x ≠ .orphanInDoubt) (e : Entry) :
    countsOn e ≠ some x := by
  unfold countsOn
  split
  · simpa using hu.symm
  · split
    · simpa using ho.symm
    · simp

theorem RestKept.trans {u : State} (h : t.RestKept s) (g : u.RestKept t) : u.RestKept s := by
  simp only [RestKept] at h g ⊢
  simp [h, g]

/-- R152: what the conversion leaves of a deposit, at the end of the event. -/
theorem convertInDoubt_inDoubt (h : s.countingContext d = some c) :
    InDoubtBy (s.notesOf d).length d c s s.convertInDoubt.settle := by
  have dpu : s.convertInDoubt.dpu = (s.converted s.trk.queue).dpu := by simp [convertInDoubt_eq, cleared, gatesOff]
  have found : s.convertInDoubt.settle.countingContext d = (s.converted s.trk.queue).countingContext d :=
    (AgreesWith.countingContext (settle_steady _) d).trans (countingContext_of_dpu dpu d)
  rw [InDoubtBy, found]
  refine ⟨fun hn => converted_goesOn s.trk.queue h hn, fun draining note last distinct => ?_⟩
  obtain ⟨done, awaits⟩ := converted_completes s.trk.queue h draining (note.trans_eq last) last distinct
  refine ⟨done, ?_⟩
  have completed := awaits.completedIn dpu
  rw [doubtedBy, Nat.sub_self, ← last] at completed
  exact completed

theorem convertInDoubt_counter (x : Counter) (s : State) : s.convertInDoubt.settle.evu.counters[x.index]
    = if s.trk.queue.filter (fun e => decide (countsOn e = some x)) = [] then s.evu.counters[x.index]
      else min (s.evu.counters[x.index] + (s.trk.queue.filter fun e => decide (countsOn e = some x)).length) 65535 := by
  have counters : s.convertInDoubt.evu.counters = (s.converted s.trk.queue).evu.counters := by
    simp [convertInDoubt_eq, cleared, gatesOff]
  rw [counters_of_steady (settle_steady _), counters, converted_counter]

theorem convertInDoubt_committed (k : PocketNo) (s : State) : (s.convertInDoubt.settle.pocket k).committed
    = (s.pocket k).committed
      - (s.trk.queue.filter (fun e => e.resolution.isSome && e.pocket == some k)).length := by
  have agrees : s.convertInDoubt.settle.AgreesWith s.convertInDoubt := settle_steady _
  have off : Revises k (s.converted s.trk.queue) s.cleared := .of_pockets rfl
  rw [agrees.committed, convertInDoubt_eq, (off.trans (reportEmpty_revises k _)).committed, converted_committed]

/-- R152: the conversion in HALT-STOPPED, with the end of its event. -/
theorem convertInDoubt_stopped (h : s.lsv.line = .haltStopped) : s.StoppedFrom s.convertInDoubt.settle := by
  have agrees : s.convertInDoubt.settle.AgreesWith s.cleared.reportEmpty := settle_steady _
  obtain ⟨kept, line, reason, further, stop, -⟩ := cleared_kept s
  have stopped : s.cleared.lsv.line = .haltStopped := line.trans h
  refine ⟨(kept.trans (reportEmpty_restKept _)).trans agrees.restKept, ?_, ?_, ?_, ?_, ?_, fun k => ?_, ?_,
    fun k => convertInDoubt_committed k s, fun d c => convertInDoubt_inDoubt, ?_, ?_, fun x hu ho => ?_⟩
  · rw [line_of_steady agrees, reportEmpty_line stopped]
  · rw [agrees.reason, ← reason]
    simp
  · rw [agrees.further, ← further]
    simp
  · rw [agrees.stopRequest, ← stop]
    simp
  · rw [trk_of_steady agrees, ← converted_queue s]
    simp [cleared, gatesOff]
  · have gates : s.convertInDoubt.settle.gdr = (s.converted s.trk.queue).gatesOff.gdr := by
      rw [gdr_of_steady agrees]
      simp [cleared]
    simp [gate, gates, gatesOff]
  · rw [agrees.held .transitFull rfl, reportEmpty_held stopped rfl]
    exact held_release_self .transitFull _
  · rw [convertInDoubt_counter]
    simp only [countsOn_eq_untracked]
    refine if_congr ?_ rfl rfl
    simp [List.filter_eq_nil_iff, Option.isSome_iff_ne_none]
  · rw [convertInDoubt_counter]
    simp only [countsOn_eq_orphan]
    rfl
  · have uncounted : s.trk.queue.filter (fun e => decide (countsOn e = some x)) = [] :=
      List.filter_eq_nil_iff.mpr fun e _ counts => countsOn_eq_other hu ho e (of_decide_eq_true counts)
    rw [convertInDoubt_counter, if_pos uncounted]

theorem AgreesWith.stopScheduled (h : t.AgreesWith s) : t.lsv.stopScheduled = s.lsv.stopScheduled :=
  show t.steady.lsv.stopScheduled = s.steady.lsv.stopScheduled by rw [h.steady_eq]

theorem convertInDoubt_scheduled (s : State) : s.convertInDoubt.settle.lsv.stopScheduled = s.lsv.stopScheduled := by
  have agrees : s.convertInDoubt.settle.AgreesWith s.cleared.reportEmpty := settle_steady _
  obtain ⟨-, -, -, -, -, scheduled⟩ := cleared_kept s
  rw [agrees.stopScheduled, ← scheduled]
  simp

/-- What the stop leaves does not depend on the level of RUNNING, the schedule and the line state before it. -/
theorem StoppedFrom.of_line {level scheduled : Bool} {l : LineState} (h : State.StoppedFrom { s with
    lsv := { s.lsv with running := level, stopScheduled := scheduled, line := l } } t) : s.StoppedFrom t := h

/-- R151: the stop itself. -/
theorem stopEvent_stops (h : s.lsv.line = .haltStopping) (hr : s.lsv.running = false) : s.stopEvent
    = convertInDoubt { s with lsv := { s.lsv with stopScheduled := false, line := .haltStopped } } := if_pos ⟨h, hr⟩

theorem stopEvent_lapses (h : s.lsv.line ≠ .haltStopping ∨ s.lsv.running = true) :
    s.stopEvent = { s with lsv := { s.lsv with stopScheduled := false } } :=
  if_neg fun ⟨line, running⟩ => h.elim (· line) fun up => absurd (up.symm.trans running) (by decide)

theorem stopEvent_stopped (h : s.lsv.line = .haltStopping) (hr : s.lsv.running = false) :
    s.StoppedFrom s.stopEvent.settle ∧ s.stopEvent.settle.lsv.stopScheduled = false := by
  rw [stopEvent_stops h hr]
  exact ⟨(convertInDoubt_stopped rfl).of_line, convertInDoubt_scheduled _⟩

/-! ## The falling edge of RUNNING (R147) -/

/-- A quiet line stays quiet without RUNNING: FEED_IDLE waits for it. -/
theorem Quiet.halted (h : s.Quiet) : (s.setRunning false).Quiet := by
  obtain ⟨pockets, near, -, slot, backlog, heldUp⟩ := h
  exact ⟨pockets, near, by simp [setRunning, idleDue], slot, backlog, heldUp⟩

theorem runningFalls_feeding (h : s.lsv.line = .run ∨ s.lsv.line = .drain) : s.runningFalls = s.transportStops := by
  unfold runningFalls
  rcases h with h | h <;> rw [h]

theorem runningFalls_stopping (h : s.lsv.line = .haltStopping) : s.runningFalls = s.stopEvent := by
  unfold runningFalls
  rw [h]

theorem runningFalls_idle (h : ((s.lsv.line = .run ∨ s.lsv.line = .drain) ∧ s.trk.queue = [])
    ∨ s.lsv.line = .standby ∨ s.lsv.line = .ready ∨ s.lsv.line = .haltStopped) : s.runningFalls = s := by
  rcases h with ⟨line, queue⟩ | line
  · rw [runningFalls_feeding line]
    exact if_pos (by simp [queue])
  · unfold runningFalls
    rcases line with line | line | line <;> rw [line]

end State
end Sys2Proof.Machine

section
open Sys2Proof Sys2Proof.Machine

/-- Settles O31: the conversion goes through the queue entry by entry, so each deposit, pocket and counter is counted by induction
on the list; the report of the empty queue and the end of the event leave what the conversion says. -/
theorem runningAndStop : Obligations.RunningAndStop := by
  intro s
  refine ⟨fun scheduled => ⟨fun line running => ?_, fun quiet lapses => ?_⟩, ⟨_, rfl, settle_steady _⟩,
    fun line queue => ?_, fun line => ?_, fun quiet idle => ?_⟩
  · exact ⟨_, congrArg Host.Outcome.next (if_pos scheduled), State.stopEvent_stopped line running⟩
  · have kept : State.Quiet { s with lsv := { s.lsv with stopScheduled := false } } := quiet
    have event := congrArg State.settle (State.stopEvent_lapses lapses)
    exact congrArg Host.Outcome.next ((if_pos scheduled).trans (event.trans (settle_of_quiet kept)))
  · have stops : (s.setRunning false).transportStops = (s.setRunning false).haltCause .transportStopped :=
      if_neg (by simpa [State.setRunning] using queue)
    refine ⟨_, congrArg (Host.Outcome.next ∘ State.settle) ?_, settle_steady _⟩
    exact (State.runningFalls_feeding (s := s.setRunning false) line).trans stops
  · obtain ⟨stopped, -⟩ := State.stopEvent_stopped (s := s.setRunning false) line rfl
    have event := State.runningFalls_stopping (s := s.setRunning false) line
    exact ⟨_, congrArg (Host.Outcome.next ∘ State.settle) event, stopped.of_line⟩
  · have stays := congrArg State.settle (State.runningFalls_idle (s := s.setRunning false) idle)
    exact congrArg Host.Outcome.next (stays.trans (settle_of_quiet quiet.halted))

end

/-! SUPPORT. A frame for any station as the receiver takes it, bytes and frames that it does not take, and the statements about
incoming frames. -/

namespace Sys2Proof.Machine

/- One theorem at a time: many at once exhaust the threads. -/
set_option Elab.async false

variable {s : State} {dest src kind corr len hi lo : Byte} {payload covered bytes : List Byte}

namespace State

/-! ## Whole frames (R161, R164) -/

/-- R164: a frame is sorted by its own fields. -/
theorem sortFrame_sent (hlen : len.toNat = payload.length + 5) (check : BitVec 16) (s : State) :
    s.sortFrame (len :: (dest :: src :: kind :: corr :: payload ++ bytes16 check))
      = if dest = 255 then
          s.sortBroadcast (syncByte :: len :: (dest :: src :: kind :: corr :: payload ++ bytes16 check)) src kind corr payload
        else if s.lnk.station = some dest.toNat then s.sortOwn src kind corr payload
        else s.offerForward (syncByte :: len :: (dest :: src :: kind :: corr :: payload ++ bytes16 check)) := by
  have fields : ((len :: (dest :: src :: kind :: corr :: payload ++ bytes16 check)).drop 5).take (len.toNat - 5) = payload := by
    simp [hlen]
  unfold sortFrame
  simp only [count8At, byteAt, List.getD_cons_zero, List.getD_cons_succ, List.cons_append, broadcastStation] at fields ⊢
  rw [fields]

/-- R161, R164: a whole frame comes in as it was sent, and is sorted by its DEST. -/
theorem receive_frame (hr : s.lnk.receiver = .hunting) (hp : payload.length ≤ 244) (dest src kind corr : Byte) :
    exec (.linkFrameReceived (frameBytes dest src kind corr payload)) s = .next (settle
      (if dest = 255 then s.sortBroadcast (frameBytes dest src kind corr payload) src kind corr payload
       else if s.lnk.station = some dest.toNat then s.sortOwn src kind corr payload
       else s.offerForward (frameBytes dest src kind corr payload))) := by
  have len : (BitVec.ofNat 8 (payload.length + 5)).toNat = payload.length + 5 := by
    rw [BitVec.toNat_ofNat]
    omega
  have received := receive_sent (len := BitVec.ofNat 8 (payload.length + 5)) hr
    (covered := dest :: src :: kind :: corr :: payload) (by simp [len]) (by omega) (by omega)
  exact congrArg Host.Outcome.next (received.trans (congrArg settle (sortFrame_sent len _ s)))

theorem receive_other (hr : s.lnk.receiver = .hunting) (hp : payload.length ≤ 244) (hs : s.lnk.station ≠ some dest.toNat)
    (hd : dest ≠ 255) : exec (.linkFrameReceived (frameBytes dest src kind corr payload)) s
      = .next (s.offerForward (frameBytes dest src kind corr payload)).settle := by
  rw [receive_frame hr hp, if_neg hd, if_neg hs]

theorem receive_broadcast (hr : s.lnk.receiver = .hunting) (hp : payload.length ≤ 244) :
    exec (.linkFrameReceived (frameBytes 255 src kind corr payload)) s
      = .next (s.sortBroadcast (frameBytes 255 src kind corr payload) src kind corr payload).settle := by
  rw [receive_frame hr hp, if_pos rfl]

/-! ## What the receiver does not take (R161) -/

/-- R161: while HUNTING the receiver looks for SYNC. -/
theorem receive_noise (hr : s.lnk.receiver = .hunting) (h : ∀ b ∈ bytes, b ≠ syncByte) : bytes.foldl receiveByte s = s := by
  induction bytes with
  | nil => rfl
  | cons b bytes ih =>
    have passed : s.receiveByte b = s := by simp [receiveByte, hr, h b (by simp)]
    rw [List.foldl_cons, passed]
    exact ih fun x hx => h x (by simp [hx])

theorem receiveByte_badLength (h : len.toNat < 5 ∨ 249 < len.toNat) (s : State) :
    (s.setReceiver (.collecting [])).receiveByte len = (s.setReceiver .hunting).linkError.settle := by
  simp [receiveByte, count8At, byteAt, h]
  rfl

/-- R162: CHECK bytes other than the check of the covered bytes. -/
theorem checkEqual_of_damaged (h : covered.length + 1 = len.toNat) (hc : [hi, lo] ≠ bytes16 (crc covered)) :
    checkEqual (len :: (covered ++ [hi, lo])) = false := by
  simpa [checkEqual, count8At, byteAt, ← h] using hc

/-- The last byte of a frame whose CHECK does not agree. -/
theorem receiveByte_rejects {got : List Byte} (h5 : 5 ≤ len.toNat) (h249 : len.toNat ≤ 249) (hlen : got.length = len.toNat)
    (hc : checkEqual (len :: (got ++ [lo])) = false) (s : State) :
    (s.setReceiver (.collecting (len :: got))).receiveByte lo = (s.setReceiver .hunting).linkError.settle := by
  have range : ¬ (len.toNat < 5 ∨ 249 < len.toNat) := by omega
  simp [receiveByte, count8At, byteAt, range, hlen, hc]
  rfl

theorem receive_badLength (hr : s.lnk.receiver = .hunting) (h : len.toNat < 5 ∨ 249 < len.toNat) :
    exec (.linkFrameReceived [syncByte, len]) s = .next s.linkError.settle := by
  refine congrArg Host.Outcome.next ?_
  rw [List.foldl_cons, List.foldl_cons, List.foldl_nil, receiveByte_sync hr, receiveByte_badLength h, setReceiver_of_eq hr]

theorem receive_damaged (hr : s.lnk.receiver = .hunting) (h5 : 5 ≤ len.toNat) (h249 : len.toNat ≤ 249)
    (h : covered.length + 1 = len.toNat) (hc : [hi, lo] ≠ bytes16 (crc covered)) :
    exec (.linkFrameReceived (syncByte :: len :: covered ++ [hi, lo])) s = .next s.linkError.settle := by
  have whole : syncByte :: len :: covered ++ [hi, lo] = syncByte :: len :: ((covered ++ [hi]) ++ [lo]) := by simp
  have differs : checkEqual (len :: ((covered ++ [hi]) ++ [lo])) = false := by
    simpa using checkEqual_of_damaged h hc
  refine congrArg Host.Outcome.next ?_
  rw [whole, List.foldl_cons, List.foldl_cons, receiveByte_sync hr, receiveByte_length h5 h249, List.foldl_append,
    receive_collects h5 h249 _ (by simp [h]), List.nil_append, List.foldl_cons, List.foldl_nil,
    receiveByte_rejects h5 h249 (by simp [h]) differs, setReceiver_of_eq hr]

/-! ## Frames for the part (Table 9-5, R165) -/

theorem sortOwn_rest {own : Byte} (h : s.HearsFrom own src payload) (h1 : kind ≠ 0x01) (h2 : kind ≠ 0x02) :
    s.sortOwn src kind corr payload = if emittedKind kind then s.linkError
      else s.offerCommand { src := src, kind := kind, corr := corr, payload := payload, broadcast := false } := by
  obtain ⟨-, station, -, broadcast, self, -⟩ := h
  have other : ¬ (src = broadcastStation ∨ s.lnk.station = some src.toNat) := by
    rw [station, Option.some_inj, BitVec.toNat_inj]
    exact not_or.mpr ⟨broadcast, self.symm⟩
  unfold sortOwn
  rw [if_neg other, if_neg h1, if_neg h2]

theorem offerCommand_room (h : s.cmp.commands.length < 4) (q : QueuedCommand) :
    s.offerCommand q = { s with cmp := { s.cmp with commands := s.cmp.commands ++ [q] } } := if_pos h

theorem offerCommand_full (h : 4 ≤ s.cmp.commands.length) (q : QueuedCommand) :
    s.offerCommand q = (s.bump .commandDrops).raise .commandDrop := if_neg (Nat.not_lt.mpr h)

/-! ## Frames to be forwarded, and broadcasts (R166, R167) -/

theorem offerForward_room (h : s.lnk.forward.length < 8) (frame : List Byte) :
    s.offerForward frame = { s with lnk := { s.lnk with forward := s.lnk.forward ++ [frame] } } := if_pos h

theorem offerForward_full (h : 8 ≤ s.lnk.forward.length) (frame : List Byte) :
    s.offerForward frame = (s.bump .forwardDrops).raise .forwardDrop := if_neg (Nat.not_lt.mpr h)

theorem sortBroadcast_queued (h : broadcastCommand kind payload = true) (hf : s.lnk.forward.length < 8)
    (hc : s.cmp.commands.length < 4) (frame : List Byte) : s.sortBroadcast frame src kind corr payload = { s with
      lnk := { s.lnk with forward := s.lnk.forward ++ [frame] }
      cmp := { s.cmp with commands := s.cmp.commands ++
        [{ src := src, kind := kind, corr := corr, payload := payload, broadcast := true }] } } := by
  unfold sortBroadcast
  rw [offerForward_room hf]
  exact (if_pos h).trans (if_pos hc)

theorem sortBroadcast_forwarded (h : broadcastCommand kind payload = false) (frame : List Byte) (s : State) :
    s.sortBroadcast frame src kind corr payload = s.offerForward frame := if_neg (Bool.eq_false_iff.mp h)

end State

theorem emittedKind_iff (kind : Byte) : emittedKind kind = true ↔ kind ∈ [0x40, 0x41, 0x42, 0x43, 0x44] := by
  have bounds : emittedKind kind = true ↔ 0x40 ≤ kind.toNat ∧ kind.toNat ≤ 0x44 := decide_eq_true_iff
  rw [bounds]
  simp only [List.mem_cons, List.not_mem_nil, or_false, BitVec.ofNat_eq_ofNat, ← BitVec.toNat_inj, BitVec.toNat_ofNat]
  omega

/-- R166: the two payloads of FEED_HOLD, and STOP and HALT of LINE_CONTROL. -/
theorem broadcastCommand_of_offered (h : (kind = 0x1A ∧ (payload = [0] ∨ payload = [1]))
    ∨ (kind = 0x17 ∧ (payload = [1] ∨ payload = [2]))) : broadcastCommand kind payload = true := by
  rcases h with ⟨rfl, rfl | rfl⟩ | ⟨rfl, rfl | rfl⟩ <;> decide

theorem broadcastCommand_of_kind (h1 : kind ≠ 0x1A) (h2 : kind ≠ 0x17) (payload : List Byte) :
    broadcastCommand kind payload = false := by
  have hold : decide (kind = kindFeedHold) = false := decide_eq_false h1
  have control : decide (kind = kindLineControl) = false := decide_eq_false h2
  unfold broadcastCommand
  rw [hold, control]
  split <;> rfl

end Sys2Proof.Machine

section
open Sys2Proof Sys2Proof.Machine

/-- Settles O32: the receiver collects the frame to its last byte, its check agrees, and its fields sort it. -/
theorem frameDelivered : Obligations.FrameDelivered := fun _ dest src kind corr _ hr hp =>
  State.receive_frame hr hp dest src kind corr

/-- Settles O33: without SYNC the receiver stays HUNTING; a bad LENGTH and a check that differs end in a link error. -/
theorem damagedFrame : Obligations.DamagedFrame := by
  intro s hr
  refine ⟨fun bytes noise => ?_, fun len range => ?_, fun len hi lo covered h5 h249 whole differs => ?_⟩
  · exact congrArg Host.Outcome.next (State.receive_noise hr noise)
  · exact ⟨_, State.receive_badLength hr range, settle_steady _⟩
  · exact ⟨_, State.receive_damaged hr h5 h249 whole differs, settle_steady _⟩

/-- Settles O34: the frame is received whole and sorted by its kind and by the room in the command queue; a queued command leaves
nothing for the end of the event to do. -/
theorem commandFrames : Obligations.CommandFrames := by
  intro s own src kind corr payload heard h1 h2
  have received := State.receive_own heard kind corr
  rw [State.sortOwn_rest heard h1 h2] at received
  refine ⟨fun emitted => ?_, fun other hs room => ?_, fun other full => ?_⟩
  · rw [if_pos ((emittedKind_iff kind).mpr emitted)] at received
    exact ⟨_, received, settle_steady _⟩
  · rw [if_neg fun h => other ((emittedKind_iff kind).mp h), State.offerCommand_room room] at received
    exact received.trans (congrArg Host.Outcome.next (settle_of_quiet hs))
  · rw [if_neg fun h => other ((emittedKind_iff kind).mp h), State.offerCommand_full full] at received
    exact ⟨_, received, settle_steady _⟩

end

/-! SUPPORT. The end of an event that finds the transmit slot empty, by the source of Table 9-6 that the arbiter serves, and the
statements about forwarded frames and the end of a transmission. -/

namespace Sys2Proof.Machine

/- One theorem at a time: many at once exhaust the threads. -/
set_option Elab.async false

variable {s : State} {k : PocketNo} {o : StrapOrder} {c : Context} {r : BundleRecord} {bytes : List Byte}
  {later : List (List Byte)}

namespace State

/-! ## The arbiter's choice, rank by rank (Table 9-6) -/

theorem choose_of_reply {r : Reply} {rs : List Reply} (h : s.cmp.replies = r :: rs) : s.choose = s.placeReply r := by
  simp [choose, h]

theorem choose_of_deposit (hr : s.cmp.replies = []) (hc : s.nextRecord = some c) : s.choose = s.placeDeposit c := by
  simp [choose, hr, hc]

theorem choose_of_order (hr : s.cmp.replies = []) (hc : s.nextRecord = none) (ho : s.firstOrder = some (k, o)) :
    s.choose = s.placeOrder k o := by
  simp [choose, hr, hc, ho]

theorem choose_of_record (hr : s.cmp.replies = []) (hc : s.nextRecord = none) (ho : s.firstOrder = none)
    (hb : s.firstRecord = some (k, r)) : s.choose = s.placeRecord k r := by
  simp [choose, hr, hc, ho, hb]

theorem choose_of_event (hr : s.cmp.replies = []) (hc : s.nextRecord = none) (ho : s.firstOrder = none)
    (hb : s.firstRecord = none) (he : s.evu.owed = true) : s.choose = s.placeEvent := by
  simp [choose, hr, hc, ho, hb, he]

theorem choose_of_forward (hr : s.cmp.replies = []) (hc : s.nextRecord = none) (ho : s.firstOrder = none)
    (hb : s.firstRecord = none) (he : s.evu.owed = false) (hf : s.lnk.forward = bytes :: later) :
    s.choose = s.placeForward bytes := by
  simp [choose, hr, hc, ho, hb, he, hf]

theorem choose_of_nothing (h : s.NothingWaits) : s.choose = s := by
  obtain ⟨hr, hc, ho, hb, he, hf⟩ := h
  simp [choose, hr, hc, ho, hb, he, hf]

/-! ## After the placement -/

/-- What the end of an event still does once the arbiter has had its turn (R81, R85, R80, R170). -/
def afterPlacement (s : State) : State := s.heldBack.nearFullTest.backlogTest

theorem afterPlacement_keeps (s : State) :
    s.afterPlacement.lnk = s.lnk ∧ s.afterPlacement.cmp = s.cmp ∧ s.afterPlacement.dpu = s.dpu := by
  simp [afterPlacement, backlogTest_cmp]

/-- Where a placement has left no order and no removal to be done, the pockets stand as it left them. -/
theorem afterPlacement_pocket (h : ∀ k, s.PocketQuiet k) (k : PocketNo) : s.afterPlacement.pocket k = s.pocket k :=
  pocket_of_pkm (by simp [afterPlacement, heldBack_of_quiet h]) k

@[simp] theorem backlogTest_evu (s : State) : s.backlogTest.evu = s.evu := by
  unfold backlogTest
  split
  · rfl
  · split <;> rfl

theorem afterPlacement_evu (h : ∀ k, s.PocketQuiet k)
    (hn : s.held .looseNearFull = ((s.pocket pocket1).nearFull || (s.pocket pocket2).nearFull)) :
    s.afterPlacement.evu = s.evu := by
  rw [afterPlacement, heldBack_of_quiet h, nearFullTest_of_quiet hn, backlogTest_evu]

theorem nearFullTest_held {x : FeedReason} (h : x ≠ .looseNearFull) (s : State) : s.nearFullTest.held x = s.held x := by
  unfold nearFullTest
  split
  · split
    · rfl
    · exact held_hold_other h s
  · exact held_release_other h s

theorem afterPlacement_held (h : ∀ k, s.PocketQuiet k) {x : FeedReason} (hn : x ≠ .looseNearFull)
    (hb : x ≠ .recordBacklog) : s.afterPlacement.held x = s.held x := by
  rw [afterPlacement, heldBack_of_quiet h, backlogTest_held hb, nearFullTest_held hn]

/-- R169: the end of an event that finds the transmit slot empty and nothing else to do. -/
theorem settle_of_empty (hp : ∀ k, s.PocketQuiet k)
    (hn : s.held .looseNearFull = ((s.pocket pocket1).nearFull || (s.pocket pocket2).nearFull)) (hi : s.idleDue = false)
    (hs : s.lnk.slot = none) : s.settle = s.choose.afterPlacement := by
  have chosen : s.arbitrate = s.choose := if_neg (by simp [hs])
  rw [settle_eq_arbitrate hp hn hi, chosen]
  rfl

/-- R168: at the end of a transmission the arbiter takes its choice among what waited behind the frame. -/
theorem emptySlot_settle (h : s.Quiet) : s.emptySlot.settle = s.emptySlot.choose.afterPlacement := by
  obtain ⟨pockets, near, idle, -⟩ := h
  exact settle_of_empty (s := s.emptySlot) pockets near idle rfl

theorem exec_transmissionEnd {f : TxFrame} (hs : s.lnk.slot = some f) : exec .transmissionEnd s = .next s.emptySlot.settle :=
  congrArg Host.Outcome.next (if_pos (by rw [hs]; rfl))

/-- Of the Event Unit a calm state says nothing. -/
theorem Calm.withEvents (h : s.Calm) (evu : EventUnit) : State.Calm { s with evu := evu } := h

/-! ## What a placement leaves -/

theorem placeDeposit_contexts {x : Context} (h : x ∈ (s.placeDeposit c).dpu.contexts) :
    x ∈ s.dpu.contexts ∧ ¬ (x.state = .recordPending ∧ x.seq = c.seq) := by
  have kept : x ∈ s.dpu.contexts.filter (fun x => !(decide (x.state = .recordPending) && x.seq == c.seq)) := h
  simpa [not_and_or, -not_and] using kept

theorem placeOrder_pocket_same (k : PocketNo) (o : StrapOrder) (s : State) : (s.placeOrder k o).pocket k
    = { s.pocket k with state := .strapping, strapOrder := none, strapTimer := some s.tbs.params.strapTimeout } := by
  rw [placeOrder, putPocket_pocket_same]

/-- A STRAPPING pocket waits for nothing that R81 or R85 would do. -/
theorem placeOrder_quiet (h : ∀ j, s.PocketQuiet j) (k : PocketNo) (o : StrapOrder) (j : PocketNo) :
    (s.placeOrder k o).PocketQuiet j := by
  by_cases hj : j = k
  · subst hj
    simp [PocketQuiet, placeOrder_pocket_same]
  · refine (h j).of_pocket ?_ (by simp [placeOrder, emit])
    rw [placeOrder, pocket_putPocket_other hj, pocket_emit]

/-! ## The slot and its source at the end of an event that finds the slot empty -/

theorem served_reply {r : Reply} {rs : List Reply} (h : s.cmp.replies = r :: rs) :
    s.choose.afterPlacement.lnk.slot = some (s.replyFrame r) ∧ s.choose.afterPlacement.cmp.replies = rs := by
  obtain ⟨lnk, cmp, -⟩ := afterPlacement_keeps (s.placeReply r)
  rw [choose_of_reply h, lnk, cmp]
  exact ⟨rfl, congrArg List.tail h⟩

theorem served_deposit (hp : ∀ k, s.PocketQuiet k) (hr : s.cmp.replies = []) (hc : s.nextRecord = some c) :
    s.choose.afterPlacement.lnk.slot = some (s.ownFrame .depositRecord 0 0x44 0 c.record)
      ∧ s.choose.afterPlacement.dpu.completion = s.dpu.completion.tail
      ∧ s.choose.afterPlacement.held .contextShortage = false
      ∧ ∀ x ∈ s.choose.afterPlacement.dpu.contexts,
        x ∈ s.dpu.contexts ∧ ¬ (x.state = .recordPending ∧ x.seq = c.seq) := by
  obtain ⟨lnk, -, dpu⟩ := afterPlacement_keeps (s.placeDeposit c)
  have pockets : ∀ k, (s.placeDeposit c).PocketQuiet k := hp
  rw [choose_of_deposit hr hc, lnk, dpu, afterPlacement_held pockets (by decide) (by decide)]
  exact ⟨rfl, rfl, held_release_self .contextShortage _, fun _ => placeDeposit_contexts⟩

theorem served_order (hp : ∀ k, s.PocketQuiet k) (hr : s.cmp.replies = []) (hc : s.nextRecord = none)
    (ho : s.firstOrder = some (k, o)) :
    (s.choose.afterPlacement.pocket k).state = .strapping ∧ (s.choose.afterPlacement.pocket k).strapOrder = none
      ∧ (s.choose.afterPlacement.pocket k).strapTimer = some s.tbs.params.strapTimeout
      ∧ s.choose.afterPlacement.lnk.slot = some (s.ownFrame .strapOrder
          (BitVec.ofNat 8 (s.tbs.params.strappingStation.getD 255)) 0x42 0 (o.payload k)) := by
  obtain ⟨lnk, -, -⟩ := afterPlacement_keeps (s.placeOrder k o)
  rw [choose_of_order hr hc ho, lnk, afterPlacement_pocket (placeOrder_quiet hp k o), placeOrder_pocket_same]
  refine ⟨rfl, rfl, rfl, ?_⟩
  simp [placeOrder, emit, ownFrame]

theorem served_record (hr : s.cmp.replies = []) (hc : s.nextRecord = none) (ho : s.firstOrder = none)
    (hb : s.firstRecord = some (k, r)) :
    s.choose.afterPlacement.lnk.slot = some (s.ownFrame .bundleRecord 0 0x43 0 (r.payload k)) := by
  obtain ⟨lnk, -, -⟩ := afterPlacement_keeps (s.placeRecord k r)
  rw [choose_of_record hr hc ho hb, lnk]
  simp [placeRecord, emit, ownFrame]

theorem served_event (hp : ∀ k, s.PocketQuiet k)
    (hn : s.held .looseNearFull = ((s.pocket pocket1).nearFull || (s.pocket pocket2).nearFull)) (hr : s.cmp.replies = [])
    (hc : s.nextRecord = none) (ho : s.firstOrder = none) (hb : s.firstRecord = none) (he : s.evu.owed = true) :
    s.choose.afterPlacement.evu.owed = false ∧ s.choose.afterPlacement.evu.frameNumber = s.evu.frameNumber + 1
      ∧ s.choose.afterPlacement.lnk.slot = some (s.ownFrame .event 0 0x41 (s.evu.frameNumber + 1) s.eventPayload) := by
  obtain ⟨lnk, -, -⟩ := afterPlacement_keeps s.placeEvent
  have pockets : ∀ k, s.placeEvent.PocketQuiet k := hp
  rw [choose_of_event hr hc ho hb he, lnk, afterPlacement_evu pockets hn]
  exact ⟨rfl, rfl, rfl⟩

theorem served_forward (hr : s.cmp.replies = []) (hc : s.nextRecord = none) (ho : s.firstOrder = none)
    (hb : s.firstRecord = none) (he : s.evu.owed = false) (hf : s.lnk.forward = bytes :: later) :
    s.choose.afterPlacement.lnk.slot = some { source := .forward, bytes := bytes }
      ∧ s.choose.afterPlacement.lnk.forward = later := by
  obtain ⟨lnk, -, -⟩ := afterPlacement_keeps (s.placeForward bytes)
  rw [choose_of_forward hr hc ho hb he hf, lnk]
  exact ⟨rfl, congrArg List.tail hf⟩

/-- R167: a frame to be forwarded that finds the link idle has nothing before it. -/
theorem Quiet.settle_forwards (h : s.Quiet) (idle : s.lnk.slot = none) (frame : List Byte) : s.lnk.forward = []
    ∧ (State.settle { s with lnk := { s.lnk with forward := [frame] } }).lnk.slot
        = some { source := .forward, bytes := frame } := by
  obtain ⟨pockets, near, idling, waits, -⟩ := h
  obtain ⟨replies, deposit, order, record, owed, forward⟩ := waits idle
  have ended := settle_of_empty (s := { s with lnk := { s.lnk with forward := [frame] } }) pockets near idling idle
  obtain ⟨slot, -⟩ := served_forward (s := { s with lnk := { s.lnk with forward := [frame] } }) (later := [])
    replies deposit order record owed rfl
  exact ⟨forward, (congrArg (·.lnk.slot) ended).trans slot⟩

theorem served_nothing (h : s.NothingWaits) : s.choose.afterPlacement.lnk.slot = s.lnk.slot := by
  obtain ⟨lnk, -, -⟩ := afterPlacement_keeps s
  rw [choose_of_nothing h, lnk]

end State
end Sys2Proof.Machine

section
open Sys2Proof Sys2Proof.Machine

/-- Settles O35: an occupied slot keeps its frame, so the new one waits or is dropped; into an idle slot the arbiter takes it, as
in a quiet state nothing else waits there. -/
theorem forwardedFrames : Obligations.ForwardedFrames := by
  rintro s dest src kind corr payload frame hs hr hp rfl
  have occupied (busy : s.lnk.slot ≠ none) : s.lnk.slot.isSome = true := Option.isSome_iff_ne_none.mpr busy
  refine ⟨fun station other => ?_, ?_⟩
  · have received := State.receive_other (src := src) (kind := kind) (corr := corr) hr hp station other
    refine ⟨fun idle => ?_, fun busy room => ?_, fun busy full => ?_⟩
    · obtain ⟨none_waits, placed⟩ := hs.settle_forwards idle (frameBytes dest src kind corr payload)
      rw [State.offerForward_room (by simp [none_waits]), none_waits, List.nil_append] at received
      exact ⟨_, received, placed, settle_steady _⟩
    · rw [State.offerForward_room room] at received
      exact received.trans (congrArg Host.Outcome.next (settle_of_slot hs.calm (occupied busy)))
    · have dropped : ((s.bump .forwardDrops).raise .forwardDrop).settle = (s.bump .forwardDrops).raise .forwardDrop :=
        settle_of_slot (hs.calm.withEvents _) (occupied busy)
      rw [State.offerForward_full full, dropped] at received
      exact ⟨_, received, rfl, rfl⟩
  · rintro rfl busy room
    have received := State.receive_broadcast (src := src) (kind := kind) (corr := corr) hr hp
    refine ⟨fun offered free => ?_, fun h1 h2 => ?_⟩
    · rw [State.sortBroadcast_queued (broadcastCommand_of_offered offered) room free] at received
      exact received.trans (congrArg Host.Outcome.next (settle_of_slot hs.calm (occupied busy)))
    · rw [State.sortBroadcast_forwarded (broadcastCommand_of_kind h1 h2 payload), State.offerForward_room room] at received
      exact received.trans (congrArg Host.Outcome.next (settle_of_slot hs.calm (occupied busy)))

/-- Settles O37: rank by rank of Table 9-6, the placement and what the rest of the event's end leaves of it. -/
theorem transmissionEnds : Obligations.TransmissionEnds := by
  intro s f hs hf
  have agrees : s.emptySlot.settle.AgreesWith s := settle_steady s.emptySlot
  have ended := State.exec_transmissionEnd hf
  rw [State.emptySlot_settle hs] at agrees ended
  obtain ⟨pockets, near, -⟩ := hs
  refine ⟨_, ended, agrees, fun r rs hr => State.served_reply (s := s.emptySlot) hr, fun hr =>
    ⟨fun c hc => State.served_deposit (s := s.emptySlot) pockets hr hc, fun hc =>
    ⟨fun k o ho => State.served_order (s := s.emptySlot) pockets hr hc ho, fun ho =>
    ⟨fun k r hb => State.served_record (s := s.emptySlot) hr hc ho hb, fun hb =>
    ⟨fun he => State.served_event (s := s.emptySlot) pockets near hr hc ho hb he, fun he =>
    ⟨fun b bs hw => State.served_forward (s := s.emptySlot) hr hc ho hb he hw, fun hw =>
      State.served_nothing (s := s.emptySlot) ⟨hr, hc, ho, hb, he, hw⟩⟩⟩⟩⟩⟩⟩

end

/-! SUPPORT. What every management command leaves of CMP and LNK, what a refused one leaves, and which row the take of a command
is; and the statement about the answers. -/

namespace Sys2Proof.Machine

/- One theorem at a time: many at once exhaust the threads. -/
set_option Elab.async false

variable {s t : State} {k : PocketNo} {row : Instr} {act : Act} {q : QueuedCommand} {rest : List QueuedCommand}

namespace State

/-! ## What a command leaves -/

/-- R173, R174: a command leaves CMP and LNK to its take; one that is refused leaves everything, and reports no page. -/
structure ActsOrRefuses (s : State) (r : State × Answer) : Prop where
  cmp : r.1.cmp = s.cmp
  lnk : r.1.lnk = s.lnk
  refused : r.2.code.isSome = true → r.1 = s ∧ r.2.page = []

theorem ActsOrRefuses.ite {c : Prop} [Decidable c] {a b : State × Answer} (h : s.ActsOrRefuses a) (g : s.ActsOrRefuses b) :
    s.ActsOrRefuses (if c then a else b) := by
  split
  · exact h
  · exact g

theorem refuse_refuses (s : State) (c : RefusalCode) : s.ActsOrRefuses (s.refuse c) := ⟨rfl, rfl, fun _ => ⟨rfl, rfl⟩⟩

theorem refuseCheck_refuses (s : State) (c : RefusalCode) (n : Nat) : s.ActsOrRefuses (s.refuseCheck c n) :=
  ⟨rfl, rfl, fun _ => ⟨rfl, rfl⟩⟩

theorem carriedOut_acts (cmp : t.cmp = s.cmp := by simp) (lnk : t.lnk = s.lnk := by simp) : s.ActsOrRefuses t.carriedOut :=
  ⟨cmp, lnk, nofun⟩

theorem reportPage_acts (page : List Byte) (cmp : t.cmp = s.cmp := by simp) (lnk : t.lnk = s.lnk := by simp) :
    s.ActsOrRefuses (t.reportPage page) := ⟨cmp, lnk, nofun⟩

theorem needLength_acts (n : Nat) (h : ∀ q s, State.ActsOrRefuses s (act q s)) (q : QueuedCommand) (s : State) :
    s.ActsOrRefuses (needLength n act q s) := .ite (h q s) (s.refuse_refuses _)

theorem onPocket_acts {on : PocketNo → State → State × Answer} (h : ∀ k s, State.ActsOrRefuses s (on k s))
    (q : QueuedCommand) (s : State) : s.ActsOrRefuses (onPocket on q s) := by
  unfold onPocket
  split
  · exact h _ s
  · exact s.refuse_refuses _

/-! ## Tables and parameters -/

theorem actLoadTable_acts (q : QueuedCommand) (s : State) : s.ActsOrRefuses (actLoadTable q s) :=
  .ite (s.refuse_refuses _) (.ite (s.refuse_refuses _) (.ite (s.refuse_refuses _) carriedOut_acts))

theorem actCopy_acts (q : QueuedCommand) (s : State) : s.ActsOrRefuses (actCopy q s) :=
  .ite (s.refuse_refuses _) (.ite (s.refuse_refuses _) carriedOut_acts)

theorem commitTables_keeps (s : State) : s.commitTables.cmp = s.cmp ∧ s.commitTables.lnk = s.lnk := by
  unfold commitTables
  split <;> simp

theorem actCommit_acts (q : QueuedCommand) (s : State) : s.ActsOrRefuses (actCommit q s) := by
  obtain ⟨cmp, lnk⟩ := s.commitTables_keeps
  refine .ite (s.refuse_refuses _) ?_
  split
  · exact s.refuseCheck_refuses _ _
  · exact carriedOut_acts cmp lnk

theorem actCancel_acts (q : QueuedCommand) (s : State) : s.ActsOrRefuses (actCancel q s) :=
  .ite carriedOut_acts (s.refuse_refuses _)

theorem actSetLineParameters_acts (q : QueuedCommand) (s : State) : s.ActsOrRefuses (actSetLineParameters q s) := by
  refine .ite (s.refuse_refuses _) ?_
  split
  · exact s.refuseCheck_refuses _ _
  · exact carriedOut_acts rfl rfl

/-! ## Deposits -/

theorem actDeclare_acts (q : QueuedCommand) (s : State) : s.ActsOrRefuses (actDeclare q s) :=
  .ite (s.refuse_refuses _) (.ite (s.refuse_refuses _) (.ite (s.refuse_refuses _) (.ite (s.refuse_refuses _)
    (.ite (s.refuse_refuses _) (.ite (s.refuse_refuses _) carriedOut_acts)))))

theorem actWithdraw_acts (q : QueuedCommand) (s : State) : s.ActsOrRefuses (actWithdraw q s) :=
  .ite carriedOut_acts (s.refuse_refuses _)

theorem actForceDepositEnd_acts (q : QueuedCommand) (s : State) : s.ActsOrRefuses (actForceDepositEnd q s) :=
  .ite (s.refuse_refuses _) carriedOut_acts

/-! ## The line -/

theorem actRun_acts (q : QueuedCommand) (s : State) : s.ActsOrRefuses (actRun q s) := by
  unfold actRun
  split
  · exact carriedOut_acts rfl rfl
  · exact carriedOut_acts rfl rfl
  · exact carriedOut_acts
  all_goals exact s.refuse_refuses _

theorem stopFeeding_lnk (s : State) : s.stopFeeding.lnk = s.lnk := by
  unfold stopFeeding
  dsimp only
  split <;> simp

theorem actStop_acts (q : QueuedCommand) (s : State) : s.ActsOrRefuses (actStop q s) := by
  unfold actStop
  split
  · exact carriedOut_acts s.stopFeeding_cmp s.stopFeeding_lnk
  · exact carriedOut_acts
  · exact carriedOut_acts
  all_goals exact s.refuse_refuses _

theorem actHalt_acts (q : QueuedCommand) (s : State) : s.ActsOrRefuses (actHalt q s) :=
  .ite (s.refuse_refuses _) carriedOut_acts

theorem actResume_acts (q : QueuedCommand) (s : State) : s.ActsOrRefuses (actResume q s) :=
  .ite (carriedOut_acts (by simp [resume]) (by simp [resume])) (s.refuse_refuses _)

theorem actClear_acts (q : QueuedCommand) (s : State) : s.ActsOrRefuses (actClear q s) :=
  .ite (carriedOut_acts s.lineClear_cmp s.lineClear_lnk) (s.refuse_refuses _)

/-! ## Pocket control -/

theorem actInhibit_acts (k : PocketNo) (s : State) : s.ActsOrRefuses (actInhibit k s) :=
  .ite carriedOut_acts (s.refuse_refuses _)

theorem actRelease_acts (k : PocketNo) (s : State) : s.ActsOrRefuses (actRelease k s) :=
  .ite carriedOut_acts (s.refuse_refuses _)

theorem actCloseShort_acts (k : PocketNo) (s : State) : s.ActsOrRefuses (actCloseShort k s) :=
  .ite carriedOut_acts (s.refuse_refuses _)

theorem clearFault_lnk (k : PocketNo) (s : State) : (s.clearFault k).lnk = s.lnk := by
  unfold clearFault
  dsimp only
  split <;> simp

theorem actPocketClear_acts (k : PocketNo) (s : State) : s.ActsOrRefuses (actPocketClear k s) :=
  .ite (s.refuse_refuses _) (.ite (s.refuse_refuses _)
    (.ite (.ite (s.refuse_refuses _) (carriedOut_acts (s.clearFault_cmp k) (s.clearFault_lnk k)))
      (carriedOut_acts (by simp [clearUnaccounted]) (by simp [clearUnaccounted]))))

theorem actQueryPocket_acts (q : QueuedCommand) (s : State) : s.ActsOrRefuses (actQueryPocket q s) :=
  onPocket_acts (on := actPocketPage) (fun _ _ => reportPage_acts _ rfl rfl) q s

theorem actCodeRefusal_acts (q : QueuedCommand) (s : State) : s.ActsOrRefuses (actCodeRefusal q s) :=
  .ite (s.refuse_refuses _) (s.refuse_refuses _)

end State

/-! ## The row of a command (R173) -/

/-- The row is a take: of a command that leaves CMP and LNK to the take, or is refused. -/
def IsTake (row : Instr) : Prop :=
  ∃ act : Act, (∀ q s, State.ActsOrRefuses s (act q s)) ∧ ∀ s, exec row s = .next (s.takeCommand row act)

theorem parameterCodeRefusal_isTake : IsTake .parameterCodeRefusal := ⟨_, State.actCodeRefusal_acts, fun _ => rfl⟩

theorem lineControlRow_isTake (p : List Byte) : IsTake (lineControlRow p) := by
  unfold lineControlRow
  split
  · split
    · exact ⟨_, State.actRun_acts, fun _ => rfl⟩
    · exact ⟨_, State.actStop_acts, fun _ => rfl⟩
    · exact ⟨_, State.actHalt_acts, fun _ => rfl⟩
    · exact ⟨_, State.actResume_acts, fun _ => rfl⟩
    · exact ⟨_, State.actClear_acts, fun _ => rfl⟩
    · exact parameterCodeRefusal_isTake
  · exact parameterCodeRefusal_isTake

theorem pocketControlRow_isTake (p : List Byte) : IsTake (pocketControlRow p) := by
  unfold pocketControlRow
  split
  · split
    · exact ⟨_, State.onPocket_acts State.actInhibit_acts, fun _ => rfl⟩
    · exact ⟨_, State.onPocket_acts State.actRelease_acts, fun _ => rfl⟩
    · exact ⟨_, State.onPocket_acts State.actCloseShort_acts, fun _ => rfl⟩
    · exact ⟨_, State.onPocket_acts State.actPocketClear_acts, fun _ => rfl⟩
    · exact parameterCodeRefusal_isTake
  · exact parameterCodeRefusal_isTake

theorem feedHoldRow_isTake (p : List Byte) : IsTake (feedHoldRow p) := by
  unfold feedHoldRow
  split
  · split
    · exact ⟨actFeedHoldClear, fun _ _ => State.carriedOut_acts, fun _ => rfl⟩
    · split
      · exact ⟨actFeedHoldSet, fun _ _ => State.carriedOut_acts, fun _ => rfl⟩
      · exact parameterCodeRefusal_isTake
  · exact parameterCodeRefusal_isTake

theorem eventEnableRow_isTake (p : List Byte) : IsTake (eventEnableRow p) := by
  unfold eventEnableRow
  split
  · split
    · exact ⟨actEnableClear, fun _ _ => State.carriedOut_acts, fun _ => rfl⟩
    · split
      · exact ⟨actEnableSet, fun _ _ => State.carriedOut_acts, fun _ => rfl⟩
      · exact parameterCodeRefusal_isTake
  · exact parameterCodeRefusal_isTake

theorem statusQueryRow_isTake (p : List Byte) : IsTake (statusQueryRow p) := by
  unfold statusQueryRow
  split
  · split
    · exact ⟨_, fun _ _ => State.reportPage_acts _, fun _ => rfl⟩
    · exact ⟨_, State.actQueryPocket_acts, fun _ => rfl⟩
    · exact ⟨_, fun _ _ => State.reportPage_acts _, fun _ => rfl⟩
    · exact ⟨_, fun _ _ => State.reportPage_acts _, fun _ => rfl⟩
    · exact ⟨_, fun _ _ => State.reportPage_acts _, fun _ => rfl⟩
    · exact ⟨_, fun _ _ => State.reportPage_acts _, fun _ => rfl⟩
    · exact parameterCodeRefusal_isTake
  · exact parameterCodeRefusal_isTake

/-- The row of every command is a take, kind by kind of Table 12-2. -/
theorem rowOf_isTake (q : QueuedCommand) : IsTake (rowOf q) := by
  unfold rowOf
  split
  · exact ⟨_, State.actLoadTable_acts, fun _ => rfl⟩
  · exact ⟨_, State.needLength_acts 0 State.actCopy_acts, fun _ => rfl⟩
  · exact ⟨_, State.needLength_acts 0 State.actCommit_acts, fun _ => rfl⟩
  · exact ⟨_, State.needLength_acts 0 State.actCancel_acts, fun _ => rfl⟩
  · exact ⟨_, State.needLength_acts 196 State.actSetLineParameters_acts, fun _ => rfl⟩
  · exact ⟨_, State.actDeclare_acts, fun _ => rfl⟩
  · exact ⟨_, State.needLength_acts 4 State.actWithdraw_acts, fun _ => rfl⟩
  · exact lineControlRow_isTake _
  · exact ⟨_, State.needLength_acts 0 State.actForceDepositEnd_acts, fun _ => rfl⟩
  · exact pocketControlRow_isTake _
  · exact feedHoldRow_isTake _
  · exact ⟨_, State.needLength_acts 0 (act := actIntakeRestart) fun _ _ => State.carriedOut_acts rfl rfl, fun _ => rfl⟩
  · exact eventEnableRow_isTake _
  · exact ⟨_, State.needLength_acts 2 (act := actEventClear) fun _ _ => State.carriedOut_acts, fun _ => rfl⟩
  · exact statusQueryRow_isTake _
  · exact ⟨_, State.needLength_acts 0 (act := actCountersClear) fun _ _ => State.carriedOut_acts, fun _ => rfl⟩
  · exact ⟨_, fun _ s => s.refuse_refuses .unknownKind, fun _ => rfl⟩

/-- R173 steps 2 and 3: a kind with a code is known, whatever its payload. -/
theorem codedRows_ne_unknownKind (p : List Byte) : lineControlRow p ≠ .unknownKind ∧ pocketControlRow p ≠ .unknownKind
    ∧ feedHoldRow p ≠ .unknownKind ∧ eventEnableRow p ≠ .unknownKind ∧ statusQueryRow p ≠ .unknownKind := by
  refine ⟨?_, ?_, ?_, ?_, ?_⟩
  · unfold lineControlRow
    (repeat' split) <;> exact nofun
  · unfold pocketControlRow
    (repeat' split) <;> exact nofun
  · unfold feedHoldRow
    (repeat' split) <;> exact nofun
  · unfold eventEnableRow
    (repeat' split) <;> exact nofun
  · unfold statusQueryRow
    (repeat' split) <;> exact nofun

/-- R173 step 1: only a kind outside 0x10 to 0x1F is unknown. -/
theorem kind_of_rowOf_unknownKind (h : rowOf q = .unknownKind) : q.kind.toNat < 0x10 ∨ 0x1F < q.kind.toNat := by
  obtain ⟨line, pocket, feed, enable, query⟩ := codedRows_ne_unknownKind q.payload
  unfold rowOf at h
  split at h
  case h_8 => exact absurd h line
  case h_10 => exact absurd h pocket
  case h_11 => exact absurd h feed
  case h_13 => exact absurd h enable
  case h_15 => exact absurd h query
  case h_17 => grind
  all_goals exact absurd h nofun

/-! ## The take of a command -/

theorem takeCommand_of_due (hd : s.Due row q rest) (act : Act) :
    s.takeCommand row act = ((act q (s.taken rest)).1.answer q (act q (s.taken rest)).2).settle := by
  obtain ⟨commands, hrow, may⟩ := hd
  unfold State.takeCommand
  rw [commands]
  exact if_pos ⟨hrow, may⟩

theorem State.answer_commands (q : QueuedCommand) (a : Answer) (s : State) : (s.answer q a).cmp.commands = s.cmp.commands := by
  unfold State.answer
  split <;> rfl

/-- R172: a command that is taken leaves its queue. -/
theorem take_commands (hd : s.Due row q rest) (acts : (s.taken rest).ActsOrRefuses (act q (s.taken rest))) :
    (s.takeCommand row act).cmp.commands = rest := by
  rw [takeCommand_of_due hd, commands_of_steady (settle_steady _), State.answer_commands, acts.cmp]
  rfl

/-- R175: a broadcast adds no reply. -/
theorem take_broadcast_replies (hd : s.Due row q rest) (hb : q.broadcast = true) (busy : s.lnk.slot ≠ none)
    (acts : (s.taken rest).ActsOrRefuses (act q (s.taken rest))) :
    (s.takeCommand row act).cmp.replies = s.cmp.replies := by
  have silent (u : State) (a : Answer) : u.answer q a = u := if_pos hb
  have occupied : (act q (s.taken rest)).1.lnk.slot ≠ none := by rw [acts.lnk]; exact busy
  obtain ⟨-, replies⟩ := State.settle_replies_of_slot occupied
  rw [takeCommand_of_due hd, silent, replies, acts.cmp]
  rfl

theorem actCodeRefusal_eq {length : Nat} (h : codedLength q.kind = length) (s : State) :
    actCodeRefusal q s = (s, refusal (if q.payload.length = length then .badIndex else .badLength) 0) := by
  subst h
  unfold actCodeRefusal
  split <;> rfl

end Sys2Proof.Machine

section
open Sys2Proof Sys2Proof.Machine

/-- Settles O38: every row of a command is a take (`rowOf_isTake`) whose command leaves CMP and LNK alone and, refused, the whole
state; so the queue and the replies are what the take and the end of its event make of them. -/
theorem commandAnswered : Obligations.CommandAnswered := by
  refine ⟨?_, fun s q rest hs hb => ⟨fun hd => ?_, fun length coded hd => ?_⟩⟩
  · rintro s row ⟨q₀, rfl⟩
    obtain ⟨act, acts, run⟩ := rowOf_isTake q₀
    refine ⟨fun idle => (run s).trans (congrArg Host.Outcome.next (take_not_due idle)), fun q rest hd =>
      ⟨_, run s, take_commands hd (acts q _), fun hb => ?_, fun hb busy => take_broadcast_replies hd hb busy (acts q _)⟩⟩
    obtain ⟨cmp, lnk, refused⟩ := acts q (s.taken rest)
    obtain ⟨t, rfl, replied, -⟩ := take_answers (act := act) hd hb rfl cmp lnk
    refine ⟨_, replied, fun code => ?_⟩
    obtain ⟨same, page⟩ := refused code
    exact ⟨page, fun hs => take_unchanged hs hd hb (Prod.ext same rfl)⟩
  · obtain ⟨-, unknown, -⟩ := id hd
    exact ⟨kind_of_rowOf_unknownKind unknown, congrArg Host.Outcome.next (take_unchanged hs hd hb rfl)⟩
  · have codedLength_eq : codedLength q.kind = length := by
      rcases coded with ⟨kind, rfl⟩ | ⟨kind, rfl⟩ | ⟨kind, rfl⟩ | ⟨kind, rfl⟩ | ⟨kind, rfl⟩ <;> rw [kind] <;> rfl
    exact congrArg Host.Outcome.next (take_unchanged hs hd hb (actCodeRefusal_eq codedLength_eq _))

end

/-! SUPPORT. New event sets with the latches that follow them, and the statement about EVENT_ENABLE and EVENT_CLEAR. -/

namespace Sys2Proof.Machine

/- One theorem at a time: many at once exhaust the threads. -/
set_option Elab.async false

variable {s u : State} {row : Instr} {act : Act} {q : QueuedCommand} {rest : List QueuedCommand} {a : Answer}

/-! ## Event sets (R186, R187) -/

/-- R192: a set of 16 kinds is sent with its upper byte first. -/
theorem eventSetAt_eq {p : List Byte} {i : Nat} {hi lo : Byte} (h : byteAt p i = hi) (l : byteAt p (i + 1) = lo) :
    eventSetAt p i = hi ++ lo := by
  subst h l
  apply BitVec.eq_of_toNat_eq
  have low : (byteAt p (i + 1)).toNat < 2 ^ 8 := (byteAt p (i + 1)).isLt
  have high : (byteAt p i).toNat < 2 ^ 8 := (byteAt p i).isLt
  rw [BitVec.toNat_append, ← Nat.shiftLeft_add_eq_or_of_lt low, Nat.shiftLeft_eq, eventSetAt, number16At, BitVec.toNat_ofNat]
  omega

/-- R186, R187: the latches under new sets as a formula of the sets before and after. -/
theorem EventUnit.withSets_eq (u : EventUnit) (pending enable : BitVec 16) : u.withSets pending enable =
    { u with
      pending := pending
      enable := enable
      attn := decide (pending &&& enable ≠ 0)
      owed := decide (pending &&& enable ≠ 0)
        && (u.owed || decide ((pending &&& enable) &&& ~~~(u.pending &&& u.enable) ≠ 0)) } := by
  unfold withSets reported
  by_cases empty : pending &&& enable = 0
  · simp [empty]
  · have present : (pending &&& enable != 0) = true := bne_iff_ne.mpr empty
    by_cases gained : (pending &&& enable) &&& ~~~(u.pending &&& u.enable) = 0
    · simp only [empty, gained, present, ne_eq, not_false_eq_true, not_true_eq_false, decide_true, decide_false, if_false,
        if_true, Bool.true_and, Bool.or_false]
    · simp only [empty, gained, present, ne_eq, not_false_eq_true, decide_true, if_false, Bool.true_and, Bool.or_true]

/-! ## A command on the event sets -/

/-- R174: an addressed command that turns `s` into the calm state `u` is concluded by its reply: what else waits for the slot in
`u`, as an EVENT frame may, stands behind it. -/
theorem take_of_calm (hd : s.Due row q rest) (hb : q.broadcast = false) (ha : act q (s.taken rest) = (u.taken rest, a))
    (hu : u.Calm) : s.takeCommand row act = u.concluded q rest a :=
  take_addressed (u := u.taken rest) hd hb ha rfl hu

/-- R176: a command that gives the Event Unit new sets. -/
theorem take_eventSets (hs : s.Quiet) (hd : s.Due row q rest) (hb : q.broadcast = false) {pending enable : BitVec 16}
    (ha : act q (s.taken rest) = (State.taken { s with evu := s.evu.withSets pending enable } rest, Answer.done)) :
    s.takeCommand row act = State.concluded q rest Answer.done { s with evu := s.evu.withSets pending enable } :=
  take_of_calm hd hb ha (hs.calm.withEvents _)

end Sys2Proof.Machine

section
open Sys2Proof Sys2Proof.Machine

/-- Settles O54: each command gives the Event Unit new sets (`take_eventSets`), and the latches follow them
(`EventUnit.withSets_eq`). -/
theorem eventSets : Obligations.EventSets := by
  rintro s q rest flag hi lo named after hs hb rfl hafter
  have concluded (pending enable : BitVec 16) :
      after pending enable = State.concluded q rest Answer.done { s with evu := s.evu.withSets pending enable } := by
    rw [hafter, EventUnit.withSets_eq]
  simp only [concluded]
  refine ⟨fun hd hp => ?_, fun hd hp => ?_, fun hd hp => ?_⟩
  · have named : eventSetAt q.payload 1 = hi ++ lo := eventSetAt_eq (by rw [hp]; rfl) (by rw [hp]; rfl)
    have enabled : actEnableSet q (s.taken rest) =
        (State.taken { s with evu := s.evu.withSets s.evu.pending (s.evu.enable ||| hi ++ lo) } rest, Answer.done) := by
      rw [actEnableSet, named]
      rfl
    exact congrArg Host.Outcome.next (take_eventSets hs hd hb enabled)
  · have named : eventSetAt q.payload 1 = hi ++ lo := eventSetAt_eq (by rw [hp]; rfl) (by rw [hp]; rfl)
    have disabled : actEnableClear q (s.taken rest) =
        (State.taken { s with evu := s.evu.withSets s.evu.pending (s.evu.enable &&& ~~~(hi ++ lo)) } rest, Answer.done) := by
      rw [actEnableClear, named]
      rfl
    exact congrArg Host.Outcome.next (take_eventSets hs hd hb disabled)
  · have named : eventSetAt q.payload 0 = hi ++ lo := eventSetAt_eq (by rw [hp]; rfl) (by rw [hp]; rfl)
    have cleared : needLength 2 actEventClear q (s.taken rest) =
        (State.taken { s with evu := s.evu.withSets (s.evu.pending &&& ~~~(hi ++ lo)) s.evu.enable } rest, Answer.done) := by
      rw [needLength_of_nil (by rw [hp]; rfl), actEventClear, named]
      rfl
    exact congrArg Host.Outcome.next (take_eventSets hs hd hb cleared)

end

/-! SUPPORT. The number of bytes of every field and record of the status pages (R194), a page with a value of no digits, and the
statement about the sizes of the pages. -/

namespace Sys2Proof.Machine

/- One theorem at a time: many at once exhaust the threads. -/
set_option Elab.async false

/-! ## Fields (Table 12-1) -/

@[simp] theorem length_bytes16 (w : BitVec 16) : (bytes16 w).length = 2 := rfl
@[simp] theorem length_bytes24 (w : BitVec 24) : (bytes24 w).length = 3 := rfl
@[simp] theorem length_count8 (n : Nat) : (count8 n).length = 1 := rfl
@[simp] theorem length_number16 (n : Nat) : (number16 n).length = 2 := rfl
@[simp] theorem length_number32 (n : Nat) : (number32 n).length = 4 := rfl
@[simp] theorem length_codeOr (c : Option Nat) : (codeOr c).length = 1 := rfl
@[simp] theorem length_flag (b : Bool) : (flag b).length = 1 := rfl
@[simp] theorem length_cardNumber (c : Option Nat) : (cardNumber c).length = 4 := rfl
@[simp] theorem length_bundleNumber (b : Option Nat) : (bundleNumber b).length = 4 := rfl

@[simp] theorem length_number16Or (tag : Nat) (n : Option Nat) : (number16Or tag n).length = 2 := by cases n <;> rfl

theorem length_packDigits : ∀ v : Digits, (packDigits v).length = v.length / 2
  | [] => rfl
  | [_] => by simp [packDigits]
  | _ :: _ :: v => by
    have ih := length_packDigits v
    simp only [packDigits, List.length_cons]
    omega

@[simp] theorem length_valueField (v : Digits) : (valueField v).length = v.length / 2 := by
  simp [valueField, length_packDigits]

/-- Records of one length, one after the other. -/
theorem length_flatMap_of_const {α : Type} {f : α → List Byte} {n : Nat} (l : List α) (h : ∀ a ∈ l, (f a).length = n) :
    (l.flatMap f).length = n * l.length := by
  rw [List.length_flatMap, List.map_congr_left h, List.map_const', List.sum_replicate, smul_eq_mul, Nat.mul_comm]

/-! ## Records -/

@[simp] theorem length_geometryRecord (k : PocketNo) (g : Option Geometry) : (geometryRecord k g).length = 11 := by
  simp [geometryRecord, geometryDistances]

@[simp] theorem LineParameters.length_bytes (p : LineParameters) : p.bytes.length = 196 := by
  have geometry : (allPockets.flatMap fun k => geometryRecord k p.geometry[k]).length = 11 * 16 :=
    length_flatMap_of_const allPockets fun k _ => length_geometryRecord k p.geometry[k]
  simp only [bytes, List.length_append, length_count8, length_number16, length_number32, length_codeOr, geometry]

@[simp] theorem length_assignmentBytes (a : Option Assignment) : (assignmentBytes a).length = 7 := by
  unfold assignmentBytes
  split
  · rfl
  · split <;> simp

@[simp] theorem Contribution.length_bytes (c : Contribution) : c.bytes.length = 5 := by simp [bytes]

@[simp] theorem Pocket.length_bytes (p : Pocket) : p.bytes.length = 34 + 5 * p.contributions.length := by
  have list : (p.contributions.flatMap Contribution.bytes).length = 5 * p.contributions.length :=
    length_flatMap_of_const _ fun c _ => c.length_bytes
  unfold bytes
  simp only [List.length_append, length_count8, length_number16, length_flag, length_bundleNumber, length_assignmentBytes,
    list]
  ring

/-- The Value field of a context has half as many bytes as the value has digits. -/
@[simp] theorem Context.length_bytes (c : Context) : c.bytes.length = 30 + c.value.length / 2 := by
  simp only [bytes, List.length_append, length_count8, length_number16, length_number32, length_cardNumber, length_flag,
    length_codeOr, length_valueField]
  ring

@[simp] theorem EntryEye.length_bytes (e : EntryEye) : e.bytes.length = 3 := by cases e <;> simp [bytes]

@[simp] theorem length_destinationBytes (d : Option Destination) : (destinationBytes d).length = 2 := by
  unfold destinationBytes
  split <;> simp

@[simp] theorem Entry.length_bytes (e : Entry) : e.bytes.length = 18 := by simp [bytes]

theorem length_serialBytes {w : List Byte} (h : w.length ≤ 12) : (serialBytes w).length = 13 := by
  simp only [serialBytes, List.length_append, List.length_replicate, length_count8]
  omega

theorem length_lastHitBytes {h : Option LastHit} (hs : ∀ x, h = some x → x.serial.length ≤ 12) :
    (lastHitBytes h).length = 19 := by
  cases h with
  | none => simp [lastHitBytes, length_serialBytes]
  | some x => simp [lastHitBytes, length_serialBytes (hs x rfl)]

/-! ## Pages -/

namespace State

theorem length_linePage (s : State) : s.linePage.length = 225 := by simp [linePage, lineGroup, linkGroup]

theorem length_countersPage (s : State) : s.countersPage.length = 27 := by
  have counters : (s.evu.counters.toList.flatMap number16).length = 2 * s.evu.counters.toList.length :=
    length_flatMap_of_const _ fun n _ => length_number16 n
  simp [countersPage, counters]

theorem length_pocketPage (k : PocketNo) (s : State) :
    (s.pocketPage k).length = 37 + 5 * (s.pocket k).contributions.length := by
  simp only [pocketPage, List.length_append, length_count8, length_flag, Pocket.length_bytes]
  ring

theorem length_transitPage (s : State) : s.transitPage.length = 9 + 18 * s.trk.queue.length := by
  have entries : (s.trk.queue.flatMap Entry.bytes).length = 18 * s.trk.queue.length :=
    length_flatMap_of_const _ fun e _ => e.length_bytes
  simp only [transitPage, List.length_append, length_count8, length_bytes16, length_number16, EntryEye.length_bytes, entries]

theorem length_watchPage {s : State} (h : ∀ x, s.rte.lastHit = some x → x.serial.length ≤ 12) : s.watchPage.length = 52 := by
  have hits : (s.rte.hits.toList.flatMap count8).length = 1 * s.rte.hits.toList.length :=
    length_flatMap_of_const _ fun n _ => length_count8 n
  simp [watchPage, hits, length_lastHitBytes h]

/-- The DEPOSITS page before its contexts. -/
theorem length_depositsPage (s : State) : s.depositsPage.length = 6 + 2 * s.dpu.completion.length
    + 4 * s.dpu.declarations.length + (s.dpu.contexts.flatMap Context.bytes).length := by
  have completion : (s.dpu.completion.flatMap number16).length = 2 * s.dpu.completion.length :=
    length_flatMap_of_const _ fun n _ => length_number16 n
  have declarations : (s.dpu.declarations.flatMap fun d => number32 d.card).length = 4 * s.dpu.declarations.length :=
    length_flatMap_of_const _ fun d _ => length_number32 d.card
  simp only [depositsPage, List.length_append, length_count8, length_number16, completion, declarations]
  ring

/-- The DEPOSITS page where every value has its fourteen digits (Table 12-1). -/
theorem length_depositsPage_of_digits {s : State} (h : ∀ c ∈ s.dpu.contexts, c.value.length = 14) :
    s.depositsPage.length = 6 + 2 * s.dpu.completion.length + 4 * s.dpu.declarations.length + 37 * s.dpu.contexts.length := by
  have contexts : (s.dpu.contexts.flatMap Context.bytes).length = 37 * s.dpu.contexts.length :=
    length_flatMap_of_const _ fun c hc => by rw [c.length_bytes, h c hc]
  rw [length_depositsPage, contexts]

/-- R194: what `Obligations.PageSizes` says holds of every state whose values have fourteen digits. -/
theorem pageSizes_of_digits {s : State} (h : ∀ c ∈ s.dpu.contexts, c.value.length = 14) :
    s.linePage.length = 225 ∧ s.countersPage.length = 27
      ∧ (∀ k, (s.pocketPage k).length = 37 + 5 * (s.pocket k).contributions.length)
      ∧ s.transitPage.length = 9 + 18 * s.trk.queue.length
      ∧ s.depositsPage.length = 6 + 2 * s.dpu.completion.length + 4 * s.dpu.declarations.length
          + 37 * s.dpu.contexts.length
      ∧ ((∀ x, s.rte.lastHit = some x → x.serial.length ≤ 12) → s.watchPage.length = 52) :=
  ⟨s.length_linePage, s.length_countersPage, s.length_pocketPage, s.length_transitPage, length_depositsPage_of_digits h,
    length_watchPage⟩

end State

/-! ## A value of no digits

The 37 bytes of a context have room for the 7 of its Value field, two digits to a byte. A value of the model is a list of digits
of any length, and the statement is about every state; so one context whose value is the empty list refutes it. The part opens a
context with fourteen digits (`Context.opening`), and where every value has them the sizes are as stated
(`State.pageSizes_of_digits`). -/

/-- The part after reset with this one deposit ACTIVE. -/
def stateWithDeposit (c : Context) : State := { State.reset with dpu := { State.reset.dpu with contexts := [c] } }

/-- A deposit whose value has no digits. -/
def digitlessDeposit : Context := { Context.opening 1 none none with value := [] }

theorem length_depositsPage_digitless : (stateWithDeposit digitlessDeposit).depositsPage.length = 36 := by
  simp [State.length_depositsPage, stateWithDeposit, digitlessDeposit, State.reset]

theorem witness_pageSizes_of_digits : (stateWithDeposit (Context.opening 1 none none)).depositsPage.length = 43 := by
  obtain ⟨-, -, -, -, deposits, -⟩ := State.pageSizes_of_digits (s := stateWithDeposit (Context.opening 1 none none)) (by decide)
  exact deposits

end Sys2Proof.Machine

section
open Sys2Proof Sys2Proof.Machine

/-- Refutes O56: with one deposit in use whose value has no digits, the DEPOSITS page has 36 bytes, not 43. -/
theorem not_pageSizes : ¬ Obligations.PageSizes := by
  intro h
  obtain ⟨-, -, -, -, deposits, -⟩ := h (stateWithDeposit digitlessDeposit)
  rw [length_depositsPage_digitless] at deposits
  exact absurd deposits (by decide)

end

/-! SUPPORT. What the intersection of the pending and the enable set gains by a raise, and the statement about a raise. -/

namespace Sys2Proof.Machine

/- One theorem at a time: many at once exhaust the threads. -/
set_option Elab.async false

variable {n : Nat} {w : BitVec n}

/-! ## The intersection after a raise (R186, R187) -/

/-- R185, R186: a member added to the pending set joins the intersection if it is in the enable set. -/
theorem setAdd_and (w e : BitVec n) (k : Nat) :
    setAdd w k &&& e = if setHas e k then setAdd (w &&& e) k else w &&& e := by
  have added : setAdd w k &&& e = (w &&& e) ||| (e &&& BitVec.twoPow n k) := by
    rw [setAdd, BitVec.and_or_distrib_right, BitVec.and_comm (BitVec.twoPow n k)]
  rw [added, BitVec.and_twoPow]
  cases enabled : setHas e k <;> rw [setHas] at enabled <;> simp [enabled, setAdd]

/-- A set with a member is not empty. -/
theorem ne_zero_of_setHas {k : Nat} (h : setHas w k = true) : w ≠ 0 := by
  rintro rfl
  simp [setHas] at h

theorem setAdd_ne_zero (k : Nat) (h : w ≠ 0) : setAdd w k ≠ 0 :=
  fun empty => h (BitVec.or_eq_zero_iff.mp empty).1

/-- An intersection that is not empty stays so when a member is added to the pending set. -/
theorem setAdd_and_ne_zero {e : BitVec n} (k : Nat) (h : w &&& e ≠ 0) : setAdd w k &&& e ≠ 0 := by
  rw [setAdd_and]
  split
  · exact setAdd_ne_zero k h
  · exact h

/-- R187: a raise gains the intersection a member exactly if the kind was not pending and is enabled. -/
theorem setAdd_and_gains_iff (w e : BitVec n) (k : Nat) :
    (setAdd w k &&& e) &&& ~~~(w &&& e) ≠ 0 ↔ setHas w k = false ∧ setHas e k = true := by
  refine ⟨fun gained => ?_, fun ⟨fresh, enabled⟩ => ?_⟩
  · constructor
    · refine Bool.eq_false_iff.mpr fun has => gained ?_
      rw [setAdd_of_has has, BitVec.and_not_self]
    · by_contra disabled
      rw [setAdd_and, if_neg disabled, BitVec.and_not_self] at gained
      exact gained rfl
  · have small : k < n := BitVec.lt_of_getLsbD enabled
    have joined : setHas (setAdd (w &&& e) k) k = true := setHas_setAdd_self _ small
    have absent : setHas (w &&& e) k = false := by
      rw [setHas] at fresh ⊢
      rw [BitVec.getLsbD_and, fresh, Bool.false_and]
    rw [setAdd_and, if_pos enabled]
    refine ne_zero_of_setHas (k := k) ?_
    rw [setHas] at joined absent ⊢
    rw [BitVec.getLsbD_and, BitVec.getLsbD_not, joined, absent]
    simp [small]

/-- R187: after a raise the flag is set if it was, or if the intersection gained the kind. -/
theorem EventUnit.raised_owed {u : EventUnit} (k : Nat) (h : u.owed = true → u.pending &&& u.enable ≠ 0) :
    (decide (setAdd u.pending k &&& u.enable ≠ 0)
      && (u.owed || decide ((setAdd u.pending k &&& u.enable) &&& ~~~(u.pending &&& u.enable) ≠ 0)))
    = (u.owed || (!setHas u.pending k && setHas u.enable k)) := by
  have gain : decide ((setAdd u.pending k &&& u.enable) &&& ~~~(u.pending &&& u.enable) ≠ 0)
      = (!setHas u.pending k && setHas u.enable k) := by
    rw [Bool.eq_iff_iff, decide_eq_true_iff, setAdd_and_gains_iff]
    simp
  rw [← gain]
  refine Bool.and_eq_right_iff_imp.mpr fun owes => decide_eq_true ?_
  rcases Bool.or_eq_true_iff.mp owes with owed | gained
  · exact setAdd_and_ne_zero k (h owed)
  · exact fun empty => of_decide_eq_true gained (by rw [empty]; exact BitVec.zero_and)

end Sys2Proof.Machine

section
open Sys2Proof Sys2Proof.Machine

/-- Settles O8: a raise gives the Event Unit a new pending set, with the latches of `EventUnit.withSets_eq`; what the intersection
gains by it is the kind, if that was not pending and is enabled. -/
theorem raiseLatches : Obligations.RaiseLatches := by
  rintro k s ⟨-, owed⟩
  rw [State.raise, EventUnit.withSets_eq, EventUnit.raised_owed k.code owed]
  rfl

end

/-! SUPPORT. No operation of the part touches the queue of waiting commands (log entry 2): the operations that Laws/Frames does
not speak of, then the commands, and with them the statements about every command and about a step. -/

namespace Sys2Proof.Machine

/- One theorem at a time: many at once exhaust the threads. -/
set_option Elab.async false

variable {s t u : State} {c : Prop}

namespace State

theorem pending_ite [Decidable c] (h : t.pending = s.pending) (g : u.pending = s.pending) :
    (if c then t else u).pending = s.pending := by
  split
  · exact h
  · exact g

/-- The end of an event leaves the waiting commands alone. -/
@[simp] theorem settle_pending (s : State) : s.settle.pending = s.pending := pending_of_steady (settle_steady s)

/-! ## Deposits (chapter 6) -/

@[simp] theorem openContext_pending (card : Option Nat) (s : State) : (s.openContext card).pending = s.pending := by
  unfold openContext
  dsimp only
  split <;> split <;> rfl

@[simp] theorem cardBoundary_pending (card : Option Nat) (s : State) : (s.cardBoundary card).pending = s.pending :=
  pending_ite (by simp) (by simp)

@[simp] theorem boundary_pending (card : CardField) (s : State) : (s.boundary card).pending = s.pending := by
  unfold boundary
  split <;> simp

@[simp] theorem writeOpeningGeneration_pending (s : State) : s.writeOpeningGeneration.pending = s.pending := by
  unfold writeOpeningGeneration
  split
  · rfl
  · rfl

/-! ## Line clear (R97) -/

@[simp] theorem issueCleared_pending (k : PocketNo) (s : State) : (s.issueCleared k).pending = s.pending :=
  pending_ite (by simp) rfl

@[simp] theorem settleCleared_pending (k : PocketNo) (s : State) : (s.settleCleared k).pending = s.pending :=
  pending_ite (by simp) (by simp)

@[simp] theorem clearPocket_pending (k : PocketNo) (s : State) : (s.clearPocket k).pending = s.pending :=
  pending_ite rfl (pending_ite (by simp) (by simp))

@[simp] theorem clearPockets_pending (s : State) : s.clearPockets.pending = s.pending :=
  foldl_keeps pending (fun s k => clearPocket_pending k s) allPockets s

/-! ## The stop (R151, R152) -/

@[simp] theorem convertEntry_pending (s : State) (e : Entry) : (s.convertEntry e).pending = s.pending := by
  unfold convertEntry
  split
  · split <;> simp
  · simp

@[simp] theorem convertInDoubt_pending (s : State) : s.convertInDoubt.pending = s.pending := by
  have converted := foldl_keeps pending convertEntry_pending s.trk.queue s
  simpa [convertInDoubt, gatesOff] using converted

@[simp] theorem stopEvent_pending (s : State) : s.stopEvent.pending = s.pending :=
  pending_ite (by simp) rfl

/-! ## Identification (chapter 2) -/

@[simp] theorem assignEntry_pending (seq : Nat) (s : State) : (s.assignEntry seq).pending = s.pending := by
  unfold assignEntry
  dsimp only
  split <;> simp

@[simp] theorem resolveCard_pending (seq : Nat) (card : CardField) (s : State) :
    (s.resolveCard seq card).pending = s.pending := by simp [resolveCard]

@[simp] theorem resolve_pending (seq : Nat) (r : Resolution) (s : State) : (s.resolve seq r).pending = s.pending := by
  unfold resolve
  cases r with
  | frame n =>
    dsimp only
    split <;> simp
  | unidentified => simp

@[simp] theorem resolveUnidentified_pending (seqs : List Nat) (s : State) :
    (s.resolveUnidentified seqs).pending = s.pending :=
  foldl_keeps pending (fun s q => pending_ite (resolve_pending q .unidentified s) rfl) seqs s

@[simp] theorem expireDecision_pending (seq : Nat) (s : State) : (s.expireDecision seq).pending = s.pending := by
  unfold expireDecision
  split
  · exact pending_ite (by simp) rfl
  · rfl

@[simp] theorem takeFrame_pending (r : RawNote) (s : State) : (s.takeFrame r).pending = s.pending := by
  unfold takeFrame
  split
  · exact pending_ite (by simp) (by simp)
  · exact pending_ite rfl rfl

/-! ## Creation of an entry (R7) -/

@[simp] theorem armIdle_pending (s : State) : s.armIdle.pending = s.pending := pending_ite rfl rfl

@[simp] theorem tiePredecessor_pending (e : Entry) (s : State) : (s.tiePredecessor e).pending = s.pending :=
  pending_ite (by simp) rfl

@[simp] theorem createEntry_pending (lead : Position) (s : State) : (s.createEntry lead).pending = s.pending := by
  unfold createEntry
  dsimp only
  split <;> simp

@[simp] theorem settleObject_pending (lead : Position) (s : State) : (s.settleObject lead).pending = s.pending :=
  pending_ite rfl (pending_ite rfl (pending_ite (by simp) (by simp)))

/-! ## The inbound side of the link (chapter 9) -/

@[simp] theorem linkError_pending (s : State) : s.linkError.pending = s.pending := rfl

@[simp] theorem offerCommand_pending (q : QueuedCommand) (s : State) : (s.offerCommand q).pending = s.pending :=
  pending_ite rfl rfl

@[simp] theorem offerForward_pending (bytes : List Byte) (s : State) : (s.offerForward bytes).pending = s.pending :=
  pending_ite rfl rfl

@[simp] theorem handNote_pending (src : Byte) (payload : List Byte) (s : State) :
    (s.handNote src payload).pending = s.pending := by
  have admitted (r : RawNote) : (s.admitNote r).pending = s.pending := pending_ite rfl (pending_ite rfl rfl)
  exact pending_ite rfl (pending_ite (admitted _) rfl)

@[simp] theorem handStrap_pending (src : Byte) (payload : List Byte) (s : State) :
    (s.handStrap src payload).pending = s.pending := by
  have strapOk (k : PocketNo) : (s.strapOk k).pending = s.pending := pending_ite (by simp) (by simp)
  have strapFailed (k : PocketNo) : (s.strapFailed k).pending = s.pending := by simp [State.strapFailed]
  unfold handStrap
  split
  · exact pending_ite (strapOk _) (strapFailed _)
  · rfl

@[simp] theorem sortOwn_pending (src kind corr : Byte) (payload : List Byte) (s : State) :
    (s.sortOwn src kind corr payload).pending = s.pending :=
  pending_ite rfl (pending_ite (by simp) (pending_ite (pending_ite (by simp) rfl) (pending_ite rfl (by simp))))

@[simp] theorem sortBroadcast_pending (whole : List Byte) (src kind corr : Byte) (payload : List Byte) (s : State) :
    (s.sortBroadcast whole src kind corr payload).pending = s.pending :=
  pending_ite (by simp) (by simp)

@[simp] theorem sortFrame_pending (got : List Byte) (s : State) : (s.sortFrame got).pending = s.pending :=
  pending_ite (by simp) (pending_ite (by simp) (by simp))

@[simp] theorem receiveByte_pending (s : State) (b : Byte) : (s.receiveByte b).pending = s.pending := by
  unfold receiveByte
  split
  · exact pending_ite rfl rfl
  · exact pending_ite (by simp) (pending_ite rfl (pending_ite (by simp) (by simp)))

/-! ## The belt (chapter 1) -/

@[simp] theorem clearingEdge_pending (s : State) : s.clearingEdge.pending = s.pending := by
  unfold clearingEdge
  split <;> simp

@[simp] theorem jam_pending (s : State) : s.jam.pending = s.pending := by
  unfold jam
  split
  · exact pending_ite (by simp) rfl
  · rfl
  · rfl

@[simp] theorem idleMarkReached_pending (s : State) : s.idleMarkReached.pending = s.pending := by
  unfold idleMarkReached
  split
  · exact pending_ite (by simp) rfl
  · rfl

@[simp] theorem intakeTake_pending (s : State) : s.intakeTake.pending = s.pending := by
  unfold intakeTake
  split <;> simp

/-! ## Eyes and RUNNING (chapters 4, 5 and 8) -/

@[simp] theorem arrive_pending (k : PocketNo) (s : State) : (s.arrive k).pending = s.pending := by
  unfold arrive
  split
  · simp [deliverEntry]
  · simp

@[simp] theorem notesTaken_pending (k : PocketNo) (s : State) : (s.notesTaken k).pending = s.pending :=
  pending_ite rfl (pending_ite (by simp) (pending_ite (pending_ite (by simp) (by simp)) rfl))

@[simp] theorem emptyEdgeActs_pending (k : PocketNo) (active : Bool) (s : State) :
    (s.emptyEdgeActs k active).pending = s.pending := by
  have taken : (if active then s else s.notesTaken k).pending = s.pending := pending_ite rfl (by simp)
  have faulted {c : Prop} [Decidable c] : (if c then s.faultPocket k else s).pending = s.pending :=
    pending_ite (by simp) rfl
  unfold emptyEdgeActs
  split
  · simp
  · exact taken
  · exact taken
  · exact taken
  · exact pending_ite rfl faulted
  · exact pending_ite rfl faulted
  all_goals rfl

@[simp] theorem noteEmptyEdge_pending (k : PocketNo) (active : Bool) (s : State) :
    (s.noteEmptyEdge k active).pending = s.pending := rfl

@[simp] theorem noteStackEdge_pending (k : PocketNo) (active : Bool) (s : State) :
    (s.noteStackEdge k active).pending = s.pending := rfl

@[simp] theorem stackEdgeActs_pending (k : PocketNo) (s : State) : (s.stackEdgeActs k).pending = s.pending :=
  pending_ite (by simp) rfl

@[simp] theorem runningFalls_pending (s : State) : s.runningFalls.pending = s.pending := by
  have stops : s.transportStops.pending = s.pending := pending_ite rfl (by simp)
  unfold runningFalls
  split
  · exact stops
  · exact stops
  · exact stopEvent_pending s
  all_goals rfl

@[simp] theorem strapTimeout_pending (k : PocketNo) (s : State) : (s.strapTimeout k).pending = s.pending := by
  simp [strapTimeout]

/-! ## The take of a management command (R172 to R175) -/

/-- What a management command leaves when it is taken has the same commands waiting. -/
def LeavesWaiting (s : State) (r : State × Answer) : Prop := r.1.pending = s.pending

theorem LeavesWaiting.ite [Decidable c] {a b : State × Answer} (h : s.LeavesWaiting a) (g : s.LeavesWaiting b) :
    s.LeavesWaiting (if c then a else b) := by
  split
  · exact h
  · exact g

theorem refuse_leavesWaiting (s : State) (code : RefusalCode) : s.LeavesWaiting (s.refuse code) := rfl
theorem reportPage_leavesWaiting (s : State) (page : List Byte) : s.LeavesWaiting (s.reportPage page) := rfl
theorem carriedOut_leavesWaiting (h : t.pending = s.pending := by simp) : s.LeavesWaiting t.carriedOut := h

theorem takeCommand_pending {act : Act} (h : ∀ (q : QueuedCommand) (s : State), s.LeavesWaiting (act q s)) (row : Instr)
    (s : State) : (s.takeCommand row act).pending = s.pending := by
  have answered (q : QueuedCommand) (a : Answer) (u : State) : (u.answer q a).pending = u.pending := pending_ite rfl rfl
  unfold takeCommand
  split
  · rfl
  · refine pending_ite ?_ rfl
    rw [settle_pending, answered]
    exact h _ _

theorem needLength_leavesWaiting {act : Act} (n : Nat) (h : ∀ (q : QueuedCommand) (s : State), s.LeavesWaiting (act q s))
    (q : QueuedCommand) (s : State) : s.LeavesWaiting (needLength n act q s) := .ite (h q s) (refuse_leavesWaiting s _)

theorem onPocket_leavesWaiting {act : PocketNo → State → State × Answer}
    (h : ∀ (k : PocketNo) (s : State), s.LeavesWaiting (act k s)) (q : QueuedCommand) (s : State) :
    s.LeavesWaiting (onPocket act q s) := by
  unfold onPocket
  split
  · exact h _ s
  · exact refuse_leavesWaiting s _

/-! ### Tables, parameters and deposits -/

theorem loadTable_leavesWaiting (q : QueuedCommand) (s : State) : s.LeavesWaiting (actLoadTable q s) :=
  .ite (refuse_leavesWaiting s _) (.ite (refuse_leavesWaiting s _) (.ite (refuse_leavesWaiting s _) rfl))

theorem copy_leavesWaiting (q : QueuedCommand) (s : State) : s.LeavesWaiting (actCopy q s) :=
  .ite (refuse_leavesWaiting s _) (.ite (refuse_leavesWaiting s _) rfl)

theorem commit_leavesWaiting (q : QueuedCommand) (s : State) : s.LeavesWaiting (actCommit q s) := by
  refine .ite (refuse_leavesWaiting s _) ?_
  split
  · rfl
  · exact carriedOut_leavesWaiting (pending_ite (by simp) rfl)

theorem cancel_leavesWaiting (q : QueuedCommand) (s : State) : s.LeavesWaiting (actCancel q s) :=
  .ite rfl (refuse_leavesWaiting s _)

theorem setLineParameters_leavesWaiting (q : QueuedCommand) (s : State) : s.LeavesWaiting (actSetLineParameters q s) := by
  refine .ite (refuse_leavesWaiting s _) ?_
  split
  · rfl
  · rfl

theorem declare_leavesWaiting (q : QueuedCommand) (s : State) : s.LeavesWaiting (actDeclare q s) :=
  .ite (refuse_leavesWaiting s _) (.ite (refuse_leavesWaiting s _) (.ite (refuse_leavesWaiting s _)
    (.ite (refuse_leavesWaiting s _) (.ite (refuse_leavesWaiting s _) (.ite (refuse_leavesWaiting s _) rfl)))))

theorem withdraw_leavesWaiting (q : QueuedCommand) (s : State) : s.LeavesWaiting (actWithdraw q s) :=
  .ite rfl (refuse_leavesWaiting s _)

theorem forceDepositEnd_leavesWaiting (q : QueuedCommand) (s : State) : s.LeavesWaiting (actForceDepositEnd q s) :=
  .ite (refuse_leavesWaiting s _) carriedOut_leavesWaiting

/-! ### The line -/

theorem run_leavesWaiting (q : QueuedCommand) (s : State) : s.LeavesWaiting (actRun q s) := by
  unfold actRun
  split
  all_goals rfl

theorem stop_leavesWaiting (q : QueuedCommand) (s : State) : s.LeavesWaiting (actStop q s) := by
  have stopped : s.stopFeeding.pending = s.pending := pending_ite (by simp) rfl
  unfold actStop
  split
  · exact carriedOut_leavesWaiting stopped
  all_goals rfl

theorem halt_leavesWaiting (q : QueuedCommand) (s : State) : s.LeavesWaiting (actHalt q s) :=
  .ite (refuse_leavesWaiting s _) carriedOut_leavesWaiting

theorem resume_leavesWaiting (q : QueuedCommand) (s : State) : s.LeavesWaiting (actResume q s) :=
  .ite (carriedOut_leavesWaiting (by simp [resume])) (refuse_leavesWaiting s _)

theorem clear_leavesWaiting (q : QueuedCommand) (s : State) : s.LeavesWaiting (actClear q s) :=
  .ite (carriedOut_leavesWaiting (by simp [lineClear, abortDeposits])) (refuse_leavesWaiting s _)

theorem feedHoldSet_leavesWaiting (q : QueuedCommand) (s : State) : s.LeavesWaiting (actFeedHoldSet q s) := rfl
theorem feedHoldClear_leavesWaiting (q : QueuedCommand) (s : State) : s.LeavesWaiting (actFeedHoldClear q s) := rfl
theorem intakeRestart_leavesWaiting (q : QueuedCommand) (s : State) : s.LeavesWaiting (actIntakeRestart q s) := rfl

/-! ### Pocket control and reports -/

theorem inhibit_leavesWaiting (k : PocketNo) (s : State) : s.LeavesWaiting (actInhibit k s) :=
  .ite carriedOut_leavesWaiting (refuse_leavesWaiting s _)

theorem release_leavesWaiting (k : PocketNo) (s : State) : s.LeavesWaiting (actRelease k s) :=
  .ite carriedOut_leavesWaiting (refuse_leavesWaiting s _)

theorem closeShort_leavesWaiting (k : PocketNo) (s : State) : s.LeavesWaiting (actCloseShort k s) :=
  .ite carriedOut_leavesWaiting (refuse_leavesWaiting s _)

theorem pocketClear_leavesWaiting (k : PocketNo) (s : State) : s.LeavesWaiting (actPocketClear k s) := by
  have discarded : (if 0 < (s.pocket k).held then s.issueRecord k .discardedFault else s).pending = s.pending :=
    pending_ite (by simp) rfl
  have fault : (s.clearFault k).pending = s.pending := by simpa [clearFault] using discarded
  exact .ite (refuse_leavesWaiting s _) (.ite (refuse_leavesWaiting s _) (.ite
    (.ite (refuse_leavesWaiting s _) (carriedOut_leavesWaiting fault))
    (carriedOut_leavesWaiting (by simp [clearUnaccounted]))))

theorem enableSet_leavesWaiting (q : QueuedCommand) (s : State) : s.LeavesWaiting (actEnableSet q s) := rfl
theorem enableClear_leavesWaiting (q : QueuedCommand) (s : State) : s.LeavesWaiting (actEnableClear q s) := rfl
theorem eventClear_leavesWaiting (q : QueuedCommand) (s : State) : s.LeavesWaiting (actEventClear q s) := rfl
theorem countersClear_leavesWaiting (q : QueuedCommand) (s : State) : s.LeavesWaiting (actCountersClear q s) := rfl

theorem queryPocket_leavesWaiting (q : QueuedCommand) (s : State) : s.LeavesWaiting (actQueryPocket q s) := by
  unfold actQueryPocket
  split
  · rfl
  · exact refuse_leavesWaiting s _

theorem codeRefusal_leavesWaiting (q : QueuedCommand) (s : State) : s.LeavesWaiting (actCodeRefusal q s) :=
  .ite (refuse_leavesWaiting s _) (refuse_leavesWaiting s _)

/-! ## Every command -/

/-- Every command answers a next state with the same commands waiting: it is a chain of operations that leave them alone. -/
theorem exec_pending (i : Instr) (s : State) : ∃ t, exec i s = .next t ∧ t.pending = s.pending :=
  match i with
  | .reset _ _ _ _ _ _ => ⟨_, rfl, rfl⟩
  | .encoderPulse => ⟨_, rfl, rfl⟩
  | .entryEyeBlockingEdge => ⟨_, rfl, rfl⟩
  | .entryEyeClearingEdge => ⟨_, rfl, clearingEdge_pending s⟩
  | .jamMarkExpiry => ⟨_, rfl, jam_pending s⟩
  | .decisionPointExpiry _ => ⟨_, rfl, pending_ite (by simp) rfl⟩
  | .gateOnExpiry _ => ⟨_, rfl, by simp⟩
  | .gateOffExpiry _ => ⟨_, rfl, by simp⟩
  | .windowEndExpiry _ => ⟨_, rfl, pending_ite (by simp) rfl⟩
  | .idleMarkReached => ⟨_, rfl, idleMarkReached_pending s⟩
  | .arrival _ => ⟨_, rfl, by simp⟩
  | .arrivalEyeClearingEdge _ => ⟨_, rfl, rfl⟩
  | .emptyEyeEdge _ _ => ⟨_, rfl, by simp⟩
  | .stackEyeEdge _ _ => ⟨_, rfl, by simp⟩
  | .runningFallingEdge => ⟨_, rfl, by simp⟩
  | .runningRisingEdge => ⟨_, rfl, by simp⟩
  | .stopEvent => ⟨_, rfl, pending_ite (by simp) rfl⟩
  | .linkFrameReceived bytes => ⟨_, rfl, foldl_keeps pending receiveByte_pending bytes s⟩
  | .intakeTake => ⟨_, rfl, intakeTake_pending s⟩
  | .strapTimerExpiry _ => ⟨_, rfl, pending_ite (by simp) rfl⟩
  | .transmissionEnd => ⟨_, rfl, pending_ite (by simp) rfl⟩
  | .loadTable => ⟨_, rfl, takeCommand_pending loadTable_leavesWaiting _ s⟩
  | .copyActiveToShadow => ⟨_, rfl, takeCommand_pending (needLength_leavesWaiting 0 copy_leavesWaiting) _ s⟩
  | .commitTables => ⟨_, rfl, takeCommand_pending (needLength_leavesWaiting 0 commit_leavesWaiting) _ s⟩
  | .cancelCommit => ⟨_, rfl, takeCommand_pending (needLength_leavesWaiting 0 cancel_leavesWaiting) _ s⟩
  | .setLineParameters =>
    ⟨_, rfl, takeCommand_pending (needLength_leavesWaiting 196 setLineParameters_leavesWaiting) _ s⟩
  | .declare => ⟨_, rfl, takeCommand_pending declare_leavesWaiting _ s⟩
  | .withdraw => ⟨_, rfl, takeCommand_pending (needLength_leavesWaiting 4 withdraw_leavesWaiting) _ s⟩
  | .lineControlRun => ⟨_, rfl, takeCommand_pending run_leavesWaiting _ s⟩
  | .lineControlStop => ⟨_, rfl, takeCommand_pending stop_leavesWaiting _ s⟩
  | .lineControlHalt => ⟨_, rfl, takeCommand_pending halt_leavesWaiting _ s⟩
  | .lineControlResume => ⟨_, rfl, takeCommand_pending resume_leavesWaiting _ s⟩
  | .lineControlClear => ⟨_, rfl, takeCommand_pending clear_leavesWaiting _ s⟩
  | .unknownKind => ⟨_, rfl, takeCommand_pending (fun _ s => refuse_leavesWaiting s _) _ s⟩
  | .forceDepositEnd => ⟨_, rfl, takeCommand_pending (needLength_leavesWaiting 0 forceDepositEnd_leavesWaiting) _ s⟩
  | .pocketControlInhibit => ⟨_, rfl, takeCommand_pending (onPocket_leavesWaiting inhibit_leavesWaiting) _ s⟩
  | .pocketControlRelease => ⟨_, rfl, takeCommand_pending (onPocket_leavesWaiting release_leavesWaiting) _ s⟩
  | .pocketControlCloseShort => ⟨_, rfl, takeCommand_pending (onPocket_leavesWaiting closeShort_leavesWaiting) _ s⟩
  | .pocketControlClear => ⟨_, rfl, takeCommand_pending (onPocket_leavesWaiting pocketClear_leavesWaiting) _ s⟩
  | .feedHoldSet => ⟨_, rfl, takeCommand_pending feedHoldSet_leavesWaiting _ s⟩
  | .feedHoldClear => ⟨_, rfl, takeCommand_pending feedHoldClear_leavesWaiting _ s⟩
  | .intakeRestart => ⟨_, rfl, takeCommand_pending (needLength_leavesWaiting 0 intakeRestart_leavesWaiting) _ s⟩
  | .eventEnableSet => ⟨_, rfl, takeCommand_pending enableSet_leavesWaiting _ s⟩
  | .eventEnableClear => ⟨_, rfl, takeCommand_pending enableClear_leavesWaiting _ s⟩
  | .eventClear => ⟨_, rfl, takeCommand_pending (needLength_leavesWaiting 2 eventClear_leavesWaiting) _ s⟩
  | .countersClear => ⟨_, rfl, takeCommand_pending (needLength_leavesWaiting 0 countersClear_leavesWaiting) _ s⟩
  | .statusQueryLine => ⟨_, rfl, takeCommand_pending (fun _ s => reportPage_leavesWaiting s _) _ s⟩
  | .statusQueryPocket => ⟨_, rfl, takeCommand_pending queryPocket_leavesWaiting _ s⟩
  | .statusQueryDeposits => ⟨_, rfl, takeCommand_pending (fun _ s => reportPage_leavesWaiting s _) _ s⟩
  | .statusQueryTransit => ⟨_, rfl, takeCommand_pending (fun _ s => reportPage_leavesWaiting s _) _ s⟩
  | .statusQueryCounters => ⟨_, rfl, takeCommand_pending (fun _ s => reportPage_leavesWaiting s _) _ s⟩
  | .statusQueryWatch => ⟨_, rfl, takeCommand_pending (fun _ s => reportPage_leavesWaiting s _) _ s⟩
  | .parameterCodeRefusal => ⟨_, rfl, takeCommand_pending codeRefusal_leavesWaiting _ s⟩

end State

/-! ## A step -/

/-- Log entry 2: with commands waiting a step runs the first on the state with the others. -/
theorem step_withPending_cons (i : Instr) (q : List Instr) (s : State) :
    step (s.withPending (i :: q)) = exec i (s.withPending q) := rfl

/-- Log entry 2: with none waiting a step changes nothing. -/
theorem step_withPending_nil (s : State) : step (s.withPending []) = .next (s.withPending []) := rfl

end Sys2Proof.Machine

section
open Sys2Proof Sys2Proof.Machine

/-- Settles O2: every command is a chain of operations of the part, each of which leaves the waiting commands alone
(`State.exec_pending`). -/
theorem everyCommandCompletes : Obligations.EveryCommandCompletes := fun i s => State.exec_pending i s

/-- Settles O1: the queue a step reads is the one it was given, and the state it runs the first command on has the rest. -/
theorem stepRunsFront : Obligations.StepRunsFront :=
  fun i q s => ⟨step_withPending_cons i q s, step_withPending_nil s⟩

end
